-- ==== Sys2Proof/Word.lean ====
section
/-! DEFINITION. The word types, and a fixed group of four like things (the four channels, the four supply bands). -/

namespace Sys2Proof

/-- One character of the serial line (00_scope.md section 3). -/
abbrev Byte := BitVec 8

/-- A 32-bit value: generation, uptime, access code, label. -/
abbrev W32 := BitVec 32

/-- The number of a channel, 0..3 (00_scope.md 1.1). -/
abbrev Chan := Fin 4

/-- Four like things, one for each of 0..3. -/
structure Quad (α : Type) where
  c0 : α
  c1 : α
  c2 : α
  c3 : α
deriving DecidableEq, Repr

/-- The member numbered `n`. -/
def Quad.get {α : Type} (q : Quad α) (n : Fin 4) : α :=
  match n with
  | 0 => q.c0
  | 1 => q.c1
  | 2 => q.c2
  | 3 => q.c3

/-- The four with the member numbered `n` replaced. -/
def Quad.set {α : Type} (q : Quad α) (n : Fin 4) (a : α) : Quad α :=
  match n with
  | 0 => { q with c0 := a }
  | 1 => { q with c1 := a }
  | 2 => { q with c2 := a }
  | 3 => { q with c3 := a }

/-- Four equal members. -/
def Quad.const {α : Type} (a : α) : Quad α := ⟨a, a, a, a⟩

/-- `f` on each member. -/
def Quad.map {α β : Type} (f : α → β) (q : Quad α) : Quad β := ⟨f q.c0, f q.c1, f q.c2, f q.c3⟩

/-- The four whose member numbered `n` is `f n`. -/
def Quad.ofFn {α : Type} (f : Fin 4 → α) : Quad α := ⟨f 0, f 1, f 2, f 3⟩

/-- The members in ascending order. -/
def Quad.toList {α : Type} (q : Quad α) : List α := [q.c0, q.c1, q.c2, q.c3]

/-- The four channel numbers in ascending order. -/
def allChans : List Chan := [0, 1, 2, 3]

end Sys2Proof
end

