-- ==== Sys2Proof/Syntax.lean ====
section
/-! DEFINITION. The commands of the block: one constructor per row of spec/opcode_table.json, with its operands. -/

namespace Sys2Proof

/-- R19, R144: the kind of a confirmed trip. -/
inductive TripKind where
  | oc | hr | lf | ot
deriving DecidableEq, Repr

/-- A command. A request row carries the tag and the payload of its frame; the frame of that request arrives whole (log 1).
An event row carries what the event delivers: a character, a pin level, a channel, a sense or a value. -/
inductive Instr where
  /-- HELLO (R181): Opens or reopens the session at OBSERVE, empties the reply cache, marks sent notices unsent and replies with the generation and notice sequence numbers. -/
  | hello (tag : Byte) (payload : List Byte)
  /-- BYE (R182): Closes an open session, closes any edit, marks sent notices unsent and sets the level to OBSERVE. -/
  | bye (tag : Byte) (payload : List Byte)
  /-- IDENTIFY (R183): Returns the fixed identity and capacity figures of the part without changing state. -/
  | identify (tag : Byte) (payload : List Byte)
  /-- SET_LEVEL (R185): Grants a lower, equal or OPERATE level, or judges a rise to CALIBRATE against the access code and the lockout. -/
  | setLevel (tag : Byte) (payload : List Byte)
  /-- SET_NOTICE_MASK (R158): Sets the notice kind mask with the START term always included. -/
  | setNoticeMask (tag : Byte) (payload : List Byte)
  /-- ACK_NOTICES (R161): Removes a sent notice and all older notices, and restarts or cancels the acknowledgement timer. -/
  | ackNotices (tag : Byte) (payload : List Byte)
  /-- RESET_PART (R191): When no persistence is in flight, replies OK and makes a full reset pending until the reply frame ends. -/
  | resetPart (tag : Byte) (payload : List Byte)
  /-- ENABLE (R14): Brings each named DISABLED channel to QUALIFYING or HELD, and returns a WINDING_DOWN channel to RAMPING. -/
  | enable (tag : Byte) (payload : List Byte)
  /-- DISABLE (R15): Sends each named running channel to WINDING_DOWN, or a parked wanted channel to DISABLED. -/
  | disable (tag : Byte) (payload : List Byte)
  /-- CLEAR (R17): Releases each named LOCKED or TRIPPED channel into QUALIFYING or HELD. -/
  | clear (tag : Byte) (payload : List Byte)
  /-- SOFT_HOLD (R18): Sets the soft hold of each named channel and acts on any resulting change in hold effectiveness. -/
  | softHold (tag : Byte) (payload : List Byte)
  /-- CHANNEL_STATUS (R32): Returns the state, wait reasons, codes, retry count, timers and last trip number of one channel. -/
  | channelStatus (tag : Byte) (payload : List Byte)
  /-- EVAL_CURVE (R49): Computes the base, target and limit applied for a channel, temperature and band on the active or staged copy. -/
  | evalCurve (tag : Byte) (payload : List Byte)
  /-- READ_SCAN (R80): Returns the active scan list, the twelve tallies and the four LF re-arm flags. -/
  | readScan (tag : Byte) (payload : List Byte)
  /-- READ_POINTS (R100): Returns the supply and thermal conditions, the rotation mode and the records of up to eight measured points. -/
  | readPoints (tag : Byte) (payload : List Byte)
  /-- OPEN_EDIT (R107): Creates a staged copy of the active profile and starts the 120 s edit idle timer. -/
  | openEdit (tag : Byte) (payload : List Byte)
  /-- ABANDON_EDIT (R118): Discards the staged profile and closes the edit without posting a notice. -/
  | abandonEdit (tag : Byte) (payload : List Byte)
  /-- PUT_CURVE (R110): Replaces the staged curve of one channel after checking ranges and breakpoint order. -/
  | putCurve (tag : Byte) (payload : List Byte)
  /-- PUT_CHANNEL (R111): Replaces the staged channel profile fields other than the curve and the trip settings. -/
  | putChannel (tag : Byte) (payload : List Byte)
  /-- PUT_TRIP (R112): Replaces the staged threshold, confirm count and policy of one trip point. -/
  | putTrip (tag : Byte) (payload : List Byte)
  /-- PUT_SCAN_LIST (R113): Replaces the whole staged scan list. -/
  | putScanList (tag : Byte) (payload : List Byte)
  /-- PUT_WINDOW (R114): Replaces the staged warning window and smoothing depth of one measured point. -/
  | putWindow (tag : Byte) (payload : List Byte)
  /-- PUT_SUPPLY (R115): Replaces the staged band edges, supply hysteresis, drive window and thermal settings. -/
  | putSupply (tag : Byte) (payload : List Byte)
  /-- PUT_ACCESS_CODE (R116): Replaces the staged access code. -/
  | putAccessCode (tag : Byte) (payload : List Byte)
  /-- PUT_LABEL (R116): Replaces the staged label. -/
  | putLabel (tag : Byte) (payload : List Byte)
  /-- GET_PROFILE (R117): Returns one section of the active or staged profile. -/
  | getProfile (tag : Byte) (payload : List Byte)
  /-- COMMIT (R121): Checks the staged copy and, if every check passes, installs it as active and carries its effects to every block in a fixed order. -/
  | commit (tag : Byte) (payload : List Byte)
  /-- PERSIST (R138): Starts a persistence operation of the active profile when none is in flight. -/
  | persist (tag : Byte) (payload : List Byte)
  /-- REVERT (R125): Installs the image of the newest valid slot as the active profile, with the effects of a commit. -/
  | revert (tag : Byte) (payload : List Byte)
  /-- STORE_STATUS (R139): Returns slot validity and generations, the persistence state and pages written, and the active generation. -/
  | storeStatus (tag : Byte) (payload : List Byte)
  /-- READ_LOG (R149): Returns up to four consecutive fault records starting from a requested trip number. -/
  | readLog (tag : Byte) (payload : List Byte)
  /-- CLEAR_LOG (R151): Removes every fault record and reports how many were removed. -/
  | clearLog (tag : Byte) (payload : List Byte)
  /-- UNKNOWN_REQUEST (R174): Answers UNKNOWN to a valid request whose code is not in the request index when it is served. -/
  | unknownRequest (code tag : Byte) (payload : List Byte)
  /-- OVERRUN (R173): Serving an OVERRUN entry composes a reply with status OVERRUN and does not execute the request. -/
  | overrun (code tag : Byte) (payload : List Byte)
  /-- FRAME_RECEIVED (R169): The last check byte of a frame is collected, and the frame is checked and either discarded or handed on as a valid request. -/
  | frameReceived (last : Byte)
  /-- FRAMING_ERROR (R170): A character with a low stop bit discards any partial frame and sets the receiver to HUNT. -/
  | framingError
  /-- GAP_TIMER_EXPIRY (R170): The 10 ms gap timer expires in COLLECT, discarding the partial frame and returning the receiver to HUNT. -/
  | gapTimerExpiry
  /-- BREAK (R171): The low-line timer expires after RXD has been low for 20 ms, and the receiver enters BREAK. -/
  | lineBreak
  /-- BREAK_END (R171): RXD returns to the high level and the receiver phase goes from BREAK to HUNT. -/
  | breakEnd
  /-- REPLY_FRAME_END (R177): A reply frame ends: the head entry is removed, the next entry is served and the transmitter makes its choice. -/
  | replyFrameEnd
  /-- NOTICE_FRAME_END (R160): A notice frame ends, starting the acknowledgement timer if any notice is marked SENT, and the transmitter chooses again. -/
  | noticeFrameEnd
  /-- ACKNOWLEDGEMENT_TIMER_EXPIRY (R160): Every notice marked SENT is marked UNSENT so that it is sent again in order. -/
  | acknowledgementTimerExpiry
  /-- LOCKOUT_TIMER_EXPIRY (R187): The 10 s lockout ends and the failure count is set to 0. -/
  | lockoutTimerExpiry
  /-- EDIT_IDLE_TIMER_EXPIRY (R108): The staged profile is discarded, the edit state becomes NO_EDIT and an EDIT_CLOSED TIMEOUT notice is posted. -/
  | editIdleTimerExpiry
  /-- HOLD_PIN_CHANGE (R3): A HOLD pin is asserted or deasserted, and the channel acts on any change in hold effectiveness. -/
  | holdPinChange (n : Chan) (asserted : Bool)
  /-- BLANKING_TIMER_EXPIRY (R10): Blanking is marked expired, LF counting begins, and the channel settles to ACTIVE if its output is at the target. -/
  | blankingTimerExpiry (n : Chan)
  /-- STABLE_TIMER_EXPIRY (R12): The retry count of an ACTIVE channel is set to 0. -/
  | stableTimerExpiry (n : Chan)
  /-- RETRY_TIMER_EXPIRY (R25): A TRIPPED channel goes to QUALIFYING with cause RETRY_DUE and FASTOFF is deasserted. -/
  | retryTimerExpiry (n : Chan)
  /-- RAMP_TICK (R56): The Drive Stage tick timer expires, the output steps by up to the slew toward the target or park, and the result is reported. -/
  | rampTick (n : Chan)
  /-- SCAN_STEP (R68): Every 2 µs one scan-list slot is sampled under the sampling condition, its tally is updated and the position advances. -/
  | scanStep (sense : BitVec 10)
  /-- CONFIRMED_TRIP (R19): A channel takes a pending confirmation: it chooses an action, appends a record, acts, sets its lines and posts notices. -/
  | confirmedTrip (n : Chan) (kind : TripKind)
  /-- CONVERSION_COMPLETION (R88): The 4 ms conversion timer expires: the point's record is updated and smoothed, the point is evaluated by kind and the next point is begun. -/
  | conversionCompletion (value : Int)
  /-- PAGE_WRITE_COMPLETION (R131): A page write completes and is read back, and the write of the next page begins or the operation ends. -/
  | pageWriteCompletion (matched : Bool)
  /-- POWER (R188): Power is applied or the supply falls below the logic threshold, beginning a full reset with cause POWER. -/
  | power
  /-- RESET_PIN_ASSERTED (R188): The RESET input is asserted, beginning a full reset with cause PIN. -/
  | resetPinAsserted
  /-- RESET_HELD_END (R188): With the supply good and RESET deasserted, the uptime counter is set to 0 and the phase becomes RECALLING. -/
  | resetHeldEnd
  /-- END_OF_RECALL (R190): Installs the recalled profile, parks the outputs, starts the scanner and sequencer, posts START and releases start-enabled channels. -/
  | endOfRecall
  /-- BYTE_RECEIVED (R168): A character is received on RXD. In HUNT a D3h marker moves the receiver to COLLECT and starts the gap timer, and any other byte is discarded. In COLLECT the byte is collected as a length or data byte and the gap timer restarts, and an out-of-range length sends the receiver back to HUNT. -/
  | byteReceived (char : Byte)
deriving DecidableEq, Repr

end Sys2Proof
end

