-- ==== Sys2Proof/Decode.lean ====
section
/-! DEFINITION. The decoder of spec/opcode_table.json's words. The table gives its rows no bits (no "fixed", no "fields"), so no
word spells a command; requests are read from their frames by the receiver (R168, R169) and the request index (section 10.10),
which are in Machine/Link.lean and Machine/Operands.lean. -/

namespace Sys2Proof

/-- The command a table word spells: none, for no row of the table gives bits. -/
def decodeTableWord (nbits w : Nat) : Option Instr :=
  match nbits, w with
  | _, _ => none

end Sys2Proof
end

