-- ==== Sys2Proof/Config.lean ====
section
/-! DEFINITION. The fixed figures of the part: capacities, periods and identity values, each from the rule it cites.
The spec leaves no value of a result open, so there is no free value here. -/

namespace Sys2Proof.Config

/-- R155: the capacity of the Notice Queue. -/
def noticeCapacity : Nat := 16
/-- R159: how many notices may be SENT and not acknowledged at once. -/
def noticeWindow : Nat := 4
/-- R143: the capacity of the Fault Log. -/
def logCapacity : Nat := 24
/-- R167, R173: EXECUTE entries the request queue may hold. -/
def maxExecute : Nat := 2
/-- R167, R173: OVERRUN entries the request queue may hold. -/
def maxOverrun : Nat := 4
/-- R166: the longest payload of a frame. -/
def maxPayload : Nat := 117
/-- R166: the least length a frame may state. -/
def minLength : Nat := 3
/-- R166: the greatest length a frame may state. -/
def maxLength : Nat := 120
/-- R126: pages of a slot image; page 9 is the header. -/
def pageCount : Nat := 9
/-- R126: the image format of this part. -/
def imageFormat : Nat := 1
/-- R183: the silicon revision that IDENTIFY reports. -/
def siliconRevision : Nat := 3
/-- R102: the longest curve. -/
def maxBreakpoints : Nat := 16
/-- R103: the longest scan list. -/
def maxScanSlots : Nat := 16
/-- R186: wrong codes that start the lockout. -/
def lockoutFailures : Nat := 3

/-! Periods, in ms. -/

/-- R52: the tick timer of a Drive Stage. -/
def tickPeriod : Nat := 1
/-- R83: one conversion. -/
def conversionPeriod : Nat := 4
/-- R106: the edit idle timer, 120 s. -/
def editIdlePeriod : Nat := 120000
/-- R155: the acknowledgement timer. -/
def ackPeriod : Nat := 250
/-- R167: the gap timer of the receiver. -/
def gapPeriod : Nat := 10
/-- R167: the low-line timer of the receiver. -/
def lowLinePeriod : Nat := 20
/-- R180: the lockout timer, 10 s. -/
def lockoutPeriod : Nat := 10000
/-- R131: the least duration of a page write. -/
def pageWriteLeast : Nat := 5

/-- R166: the marker byte of a frame, D3h. -/
def marker : Nat := 211
/-- R166: the polynomial of the frame check, 1021h. -/
def crcPolynomial : BitVec 16 := 0x1021#16
/-- R166: the preset of the check register, FFFFh. -/
def crcPreset : BitVec 16 := 0xFFFF#16

/-- R178: the text "UHRIN" as it travels. -/
def familyText : List (BitVec 8) := [0x55#8, 0x48#8, 0x52#8, 0x49#8, 0x4E#8]
/-- R178: the text "B4" as it travels. -/
def variantText : List (BitVec 8) := [0x42#8, 0x34#8]

end Sys2Proof.Config
end

