-- ==== Sys2Proof/Machine/Types.lean ====
section
/-! DEFINITION. The data types of the eleven blocks. Values the manual computes with as integers are Nat or Int
(00_scope.md 5.1); words that wrap or travel whole are bit vectors. -/

namespace Sys2Proof.Machine

/-! ## Timers (00_scope.md 5.5) -/

/-- A timer: stopped, or running with the milliseconds left to its expiry. -/
inductive Timer where
  | stopped
  | running (left : Nat)
deriving DecidableEq, Repr

/-- R1: the blanking timer has a third value, expired, which it holds in RAMPING after its expiry. -/
inductive BlankTimer where
  | stopped
  | running (left : Nat)
  | expired
deriving DecidableEq, Repr

/-! ## Points -/

/-- R66: the kind of a trip point. -/
inductive FastKind where
  | oc | hr | lf
deriving DecidableEq, Repr

/-- R66: a point number 0..11, three times the channel number plus the kind index. -/
abbrev PointNumber := Fin 12

/-- R82: the kind of a channel's measured point. -/
inductive ChanPoint where
  | cur | fwd | ref
deriving DecidableEq, Repr

/-- R82: a measured point. -/
inductive Point where
  | temp
  | supply
  | chan (n : Chan) (k : ChanPoint)
deriving DecidableEq, Repr

/-- One thing for each kind of channel point. -/
structure PerChanPoint (α : Type) where
  cur : α
  fwd : α
  ref : α
deriving DecidableEq, Repr

/-- One thing for each of the fourteen measured points. -/
structure PerPoint (α : Type) where
  temp : α
  supply : α
  chans : Quad (PerChanPoint α)
deriving DecidableEq, Repr

/-! ## Profile (R102, R103) -/

/-- 00_scope.md section 6: what a confirmed trip of a kind does. -/
inductive Policy where
  | latch | retry | report
deriving DecidableEq, Repr

/-- R34: one breakpoint, a temperature in whole degrees and a code. -/
structure Breakpoint where
  temp : Int
  code : Nat
deriving DecidableEq, Repr

/-- R66, R102: the settings of one trip point. -/
structure TripSetting where
  threshold : Nat
  confirm : Nat
  policy : Policy
deriving DecidableEq, Repr

/-- R102: a channel profile. -/
structure ChannelProfile where
  usable : Bool
  startEnabled : Bool
  holdClearsLock : Bool
  faultLine : Bool
  curve : List Breakpoint
  trim : Quad Int
  floor : Nat
  ceiling : Nat
  park : Nat
  slew : Nat
  blanking : Nat
  retryDelay : Nat
  retryBudget : Nat
  stableTime : Nat
  oc : TripSetting
  hr : TripSetting
  lf : TripSetting
  otPolicy : Policy
deriving DecidableEq, Repr

/-- R82, R103: the warning window and smoothing depth of a measured point. -/
structure Window where
  high : Int
  low : Int
  hyst : Int
  depth : Nat
deriving DecidableEq, Repr

/-- R103: the supply and thermal settings. -/
structure SupplySettings where
  e1 : Nat
  e2 : Nat
  e3 : Nat
  hyst : Nat
  driveMin : Nat
  driveMax : Nat
  thermalLimit : Int
  thermalHyst : Nat
deriving DecidableEq, Repr

/-- R102, R103: a whole profile. -/
structure Profile where
  channels : Quad ChannelProfile
  scanList : List PointNumber
  supply : SupplySettings
  windows : PerPoint Window
  accessCode : W32
  label : W32
  generation : W32
deriving DecidableEq, Repr

/-! ## Channel Controller (R1) -/

/-- Section 1.1: the eight channel states. -/
inductive ChState where
  | disabled | qualifying | held | ramping | active | windingDown | tripped | locked
deriving DecidableEq, Repr

/-- R6: the wait-reason set, one member each. -/
structure WaitSet where
  supply : Bool
  temperature : Bool
  thermal : Bool
  profile : Bool
  coverage : Bool
deriving DecidableEq, Repr

/-- R1, R73: for each kind, whether a confirmation is pending. -/
structure PendingTrips where
  oc : Bool
  hr : Bool
  lf : Bool
  ot : Bool
deriving DecidableEq, Repr

/-- R1: what a Channel Controller holds. -/
structure Channel where
  state : ChState
  wait : WaitSet
  retryCount : Nat
  softHold : Bool
  blanking : BlankTimer
  retry : Timer
  stable : Timer
  lastTrip : Option (BitVec 16)
  confirmations : PendingTrips
deriving DecidableEq, Repr

/-- R2: the causes of a CHANNEL notice, in the order of its table. -/
inductive Cause where
  | request | hold | release | trip | thermal | retryDue | supply | ready | commit | settled | parked | start
deriving DecidableEq, Repr

/-- R20, R144: the action of a trip. -/
inductive Action where
  | retry | lock | stop | report
deriving DecidableEq, Repr

/-- R13: the result of a channel request on one channel. -/
inductive ChanResult where
  | done | noChange | notApplicable
deriving DecidableEq, Repr

/-! ## Drive Stage (R52) -/

/-- R53: the modes of a Drive Stage. -/
inductive DriveMode where
  | undriven | parked | track | wind
deriving DecidableEq, Repr

/-- R52: what a Drive Stage holds. -/
structure DriveStage where
  output : Nat
  mode : DriveMode
  tick : Timer
deriving DecidableEq, Repr

/-- R39: the limit applied to a target. -/
inductive Limit where
  | none | floor | ceiling
deriving DecidableEq, Repr

/-! ## Trip Scanner (R67) -/

/-- R67: the three tallies of a channel's points and the re-arm flag of its LF point (`true` is armed). -/
structure Tallies where
  oc : Nat
  hr : Nat
  lf : Nat
  armed : Bool
deriving DecidableEq, Repr

/-- R67: what the Trip Scanner holds. -/
structure Scanner where
  scanning : Bool
  position : Nat
  tallies : Quad Tallies
deriving DecidableEq, Repr

/-! ## Measurement Sequencer (R83) -/

/-- R85: the rotation modes. -/
inductive Rotation where
  | restricted | full
deriving DecidableEq, Repr

/-- R89: the warning states of a point. -/
inductive Warning where
  | normal | high | low
deriving DecidableEq, Repr

/-- R83: a result record. -/
structure PointRecord where
  raw : Int
  smoothed : Int
  valid : Bool
  warning : Warning
  uptime : W32
deriving DecidableEq, Repr

/-- R83: what the Measurement Sequencer holds; the temperature validity is the valid item of the TEMP record. -/
structure Sequencer where
  running : Bool
  point : Point
  timer : Timer
  mode : Rotation
  records : PerPoint PointRecord
  supplyOk : Bool
  band : Fin 4
  overTemp : Bool
deriving DecidableEq, Repr

/-! ## Profile Store and Nonvolatile Store (R106, R126, R128) -/

/-- R106: what the Profile Store holds; the edit state is EDITING exactly while a staged profile is present. -/
structure ProfileStore where
  active : Profile
  staged : Option Profile
  idle : Timer
deriving DecidableEq, Repr

/-- R126: a slot, by name. -/
inductive SlotName where
  | a | b
deriving DecidableEq, Repr

/-- R126: the nonvolatile pages of a slot: the content pages as the profile they carry, and the header. DESIGN CHOICE
(log 13), safe: whether the header's check matches the pages is held instead of the check value. -/
structure SlotPages where
  content : Profile
  generation : W32
  formatVersion : Nat
  checkMatches : Bool
  completionMark : Bool
deriving DecidableEq, Repr

/-- R128: a slot as the working state knows it. -/
structure SlotStatus where
  valid : Bool
  generation : W32
deriving DecidableEq, Repr

/-- R128: a persistence operation in flight. -/
structure PersistOp where
  target : SlotName
  snapshot : Profile
  page : Nat
  write : Timer
deriving DecidableEq, Repr

/-- R126, R128: what the Nonvolatile Store holds: its working state and the pages themselves. -/
structure NvStore where
  statusA : SlotStatus
  statusB : SlotStatus
  op : Option PersistOp
  pagesWritten : Nat
  pagesA : SlotPages
  pagesB : SlotPages
deriving DecidableEq, Repr

/-- R140: the recall outcome. -/
inductive RecallOutcome where
  | slotA | slotB | factory
deriving DecidableEq, Repr

/-! ## Fault Log (R143) -/

/-- R144: a fault record. -/
structure FaultRecord where
  number : BitVec 16
  uptime : W32
  channel : Chan
  kind : TripKind
  stateAtTrip : ChState
  action : Action
  retryCount : Nat
  output : Nat
  target : Nat
  temperature : Int
  band : Fin 4
  generation : W32
  snapshot : Option (PerChanPoint Int)
deriving DecidableEq, Repr

/-- R143: what the Fault Log holds. -/
structure FaultLog where
  records : List FaultRecord
  next : BitVec 16
  rampEntry : Quad (Option W32)
  marks : Quad (PerChanPoint Bool)
deriving DecidableEq, Repr

/-! ## Start-Up Controller (R188) -/

/-- R188: the phases. -/
inductive Phase where
  | resetHeld | recalling | running
deriving DecidableEq, Repr

/-- R188: the reset causes. -/
inductive ResetCause where
  | power | pin | request
deriving DecidableEq, Repr

/-- R188: what the Start-Up Controller holds. -/
structure StartUp where
  phase : Phase
  cause : ResetCause
  uptime : W32
deriving DecidableEq, Repr

/-! ## Notice Queue (R155) -/

/-- R118: the causes of an EDIT_CLOSED notice. -/
inductive EditCause where
  | timeout | level | bye | linkReset
deriving DecidableEq, Repr

/-- R153: the kinds of notice. -/
inductive NoticeKind where
  | start | channel | trip | warning | supply | store | editClosed
deriving DecidableEq, Repr

/-- R154: the body of a notice. -/
inductive NoticeBody where
  | start (cause : ResetCause) (outcome : RecallOutcome) (generation : W32)
  | channel (n : Chan) (before after : ChState) (cause : Cause) (wait : Option WaitSet)
  | trip (number : BitVec 16) (n : Chan) (kind : TripKind) (action : Action)
  | warning (p : Point) (state : Warning) (smoothed : Int)
  | supply (ok : Bool) (smoothed : Int) (band : Fin 4)
  | store (done : Bool) (slot : SlotName) (generation : W32)
  | editClosed (cause : EditCause)
deriving DecidableEq, Repr

/-- R155: a queued notice; `sent` is its marking. -/
structure Notice where
  body : NoticeBody
  seq : BitVec 8
  lostAfter : Nat
  sent : Bool
deriving DecidableEq, Repr

/-- R155: what the Notice Queue holds. -/
structure NoticeQueue where
  queue : List Notice
  nextSeq : BitVec 8
  mask : BitVec 7
  ack : Timer
deriving DecidableEq, Repr

/-! ## Link Controller (R167, R180) -/

/-- R180: the access levels, in rising order. -/
inductive Level where
  | observe | operate | calibrate
deriving DecidableEq, Repr

/-- R175: the statuses of a reply. -/
inductive Status where
  | ok | accepted | unknown | length | range | state | busy | denied | noSession | noEdit | invalid | inUse | lockout
  | overrun
deriving DecidableEq, Repr

/-- R175: what an owner answers: a status and the fields that follow it. -/
structure Answer where
  status : Status
  fields : List Byte
deriving DecidableEq, Repr

/-- R173, R175: a composed reply. `cached` says whether it enters the reply cache when its frame begins (R176);
`resets` says whether the end of its frame begins the full reset of R191. -/
structure Reply where
  code : Byte
  tag : Byte
  payload : List Byte
  cached : Bool
  resets : Bool
deriving DecidableEq, Repr

/-- R173: how an entry was placed. -/
inductive Mark where
  | execute | overrun
deriving DecidableEq, Repr

/-- R167, R173: an entry of the request queue; its reply is present once the entry has been served. -/
structure Entry where
  code : Byte
  tag : Byte
  payload : List Byte
  mark : Mark
  reply : Option Reply
deriving DecidableEq, Repr

/-- R176: the reply the cache holds. -/
structure CachedReply where
  code : Byte
  tag : Byte
  payload : List Byte
deriving DecidableEq, Repr

/-- R167, R177: the transmitter. A reply frame says whether its entry still stands in the request queue (R172). -/
inductive TxFrame where
  | idle
  | reply (r : Reply) (held : Bool)
  | notice (n : Notice)
deriving DecidableEq, Repr

/-- R167: the receiver phases HUNT, COLLECT and BREAK. -/
inductive RxPhase where
  | hunt | collect | inBreak
deriving DecidableEq, Repr

/-- R167: the line rates. -/
inductive LineRate where
  | r19200 | r57600 | r115200 | r230400
deriving DecidableEq, Repr

/-- R167, R180: what the Link Controller holds. -/
structure Link where
  phase : RxPhase
  collected : List Byte
  gap : Timer
  lowLine : Timer
  queue : List Entry
  cache : Option CachedReply
  tx : TxFrame
  resetPending : Bool
  rate : LineRate
  opened : Bool
  level : Level
  failures : Nat
  lockout : Timer
deriving DecidableEq, Repr

/-- 00_scope.md section 3: the levels of the input pins; `true` is asserted, for RXD low. R188: whether the supply stands above
the logic threshold. -/
structure Pins where
  hold : Quad Bool
  reset : Bool
  supplyGood : Bool
  rxdLow : Bool
  baud0 : Bool
  baud1 : Bool
deriving DecidableEq, Repr

end Sys2Proof.Machine
end

