-- ==== Sys2Proof/Machine/Defaults.lean ====
section
/-! DEFINITION. The factory profile (R105) and the values each block holds after a full reset. -/

namespace Sys2Proof.Machine

/-! ## The factory profile (R105) -/

/-- R105: the four factory channel profiles are alike. -/
def factoryChannel : ChannelProfile where
  usable := false
  startEnabled := false
  holdClearsLock := true
  faultLine := true
  curve := [⟨-55, 0⟩, ⟨150, 0⟩]
  trim := Quad.const 0
  floor := 0
  ceiling := 4095
  park := 0
  slew := 8
  blanking := 20
  retryDelay := 10
  retryBudget := 3
  stableTime := 10
  oc := ⟨1023, 2, .retry⟩
  hr := ⟨1023, 2, .retry⟩
  lf := ⟨0, 4, .report⟩
  otPolicy := .latch

/-- R105: the factory window of a channel point. -/
def factoryChanWindow : Window := ⟨4095, 0, 0, 1⟩

/-- R105: the factory profile. -/
def factoryProfile : Profile where
  channels := Quad.const factoryChannel
  scanList := [0, 1, 2, 3, 4, 5, 6, 7, 8, 9, 10, 11]
  supply := ⟨2400, 2800, 3200, 20, 2000, 3600, 110, 10⟩
  windows := ⟨⟨1520, -640, 32, 2⟩, ⟨3500, 2100, 20, 2⟩,
    Quad.const ⟨factoryChanWindow, factoryChanWindow, factoryChanWindow⟩⟩
  accessCode := 0
  label := 0
  generation := 0

/-! ## Values after a full reset -/

/-- The empty wait-reason set. -/
def noWait : WaitSet := ⟨false, false, false, false, false⟩

/-- No confirmation pending. -/
def noConfirmations : PendingTrips := ⟨false, false, false, false⟩

/-- R1. -/
def channelAtReset : Channel where
  state := .disabled
  wait := noWait
  retryCount := 0
  softHold := false
  blanking := .stopped
  retry := .stopped
  stable := .stopped
  lastTrip := none
  confirmations := noConfirmations

/-- R52. -/
def driveAtReset : DriveStage := ⟨0, .undriven, .stopped⟩

/-- R67. -/
def talliesAtReset : Tallies := ⟨0, 0, 0, true⟩

/-- R67. -/
def scannerAtReset : Scanner := ⟨false, 0, Quad.const talliesAtReset⟩

/-- R83. -/
def recordAtReset : PointRecord := ⟨0, 0, false, .normal, 0⟩

/-- R83. -/
def sequencerAtReset : Sequencer where
  running := false
  point := .temp
  timer := .stopped
  mode := .restricted
  records := ⟨recordAtReset, recordAtReset, Quad.const ⟨recordAtReset, recordAtReset, recordAtReset⟩⟩
  supplyOk := false
  band := 0
  overTemp := false

/-- R106. DESIGN CHOICE (log 10), safe: until the end of recall no active profile is installed and nothing reads this field;
it holds the factory profile. -/
def storeAtReset : ProfileStore := ⟨factoryProfile, none, .stopped⟩

/-- An invalid slot is reported with generation 0 (R127). -/
def invalidSlot : SlotStatus := ⟨false, 0⟩

/-- R128, keeping the pages of both slots (R126). DESIGN CHOICE (log 11), safe: between the start of a full reset and recall
the spec gives the slots' reported validity no value and nothing reads it. -/
def nvAtReset (pagesA pagesB : SlotPages) : NvStore := ⟨invalidSlot, invalidSlot, none, 0, pagesA, pagesB⟩

/-- Pages that no persistence operation has written. DESIGN CHOICE (log 12), unsafe: the spec gives a new part's pages no
content; here they carry no completion mark. -/
def blankPages : SlotPages := ⟨factoryProfile, 0, 0, false, false⟩

/-- R143. -/
def logAtReset : FaultLog := ⟨[], 0, Quad.const none, Quad.const ⟨false, false, false⟩⟩

/-- R155. -/
def noticesAtReset : NoticeQueue := ⟨[], 0, 127, .stopped⟩

/-- R167: the line rate that the strap pins BAUD1 and BAUD0 select. -/
def lineRate (p : Pins) : LineRate :=
  match p.baud1, p.baud0 with
  | false, false => .r19200
  | false, true => .r57600
  | true, false => .r115200
  | true, true => .r230400

/-- R167, R180. -/
def linkAtReset (rate : LineRate) : Link where
  phase := .hunt
  collected := []
  gap := .stopped
  lowLine := .stopped
  queue := []
  cache := none
  tx := .idle
  resetPending := false
  rate := rate
  opened := false
  level := .observe
  failures := 0
  lockout := .stopped

/-- R188. DESIGN CHOICE (log 11), safe: the uptime counter is set to 0 at the end of RESET_HELD and nothing reads it before. -/
def startUpAtReset (cause : ResetCause) : StartUp := ⟨.resetHeld, cause, 0⟩

/-- The pins at first power-up, with the supply still below the logic threshold (R188, log 7). DESIGN CHOICE (log 15), unsafe:
the spec states no level for an input pin. -/
def pinsAtPowerUp : Pins where
  hold := Quad.const false
  reset := false
  supplyGood := false
  rxdLow := false
  baud0 := false
  baud1 := false

end Sys2Proof.Machine
end

