-- ==== Sys2Proof/Machine/State.lean ====
section
/-! DEFINITION. The whole state of the part, block by block (00_scope.md section 2), its input pins, the queue of waiting
commands, and the reasons a step could stop. -/

namespace Sys2Proof.Machine

/-- Reasons for a fault. The spec gives every command an effect in every state, so there is none: no meaning raises a
fault. -/
inductive Fault where
deriving DecidableEq, Repr

/-- Reasons for a refusal. -/
inductive Refusal where
  /-- Raised by `exec` alone, for a command that has no meaning yet (safe: the machine stops). No arm of `exec` raises it
  now. -/
  | notModelled (mnemonic : String)
deriving DecidableEq, Repr

/-- The state of the part. INVENTORY.md lists every item with its rule. -/
structure State where
  channels : Quad Channel
  targets : Quad Nat
  drive : Quad DriveStage
  scanner : Scanner
  seq : Sequencer
  store : ProfileStore
  nv : NvStore
  log : FaultLog
  link : Link
  notices : NoticeQueue
  startup : StartUp
  pins : Pins
  /-- The MODEL's own field: the commands that are waiting, first in, first out. -/
  pending : List Instr
deriving DecidableEq, Repr

/-- The machine right after its first power-up: R188's cause POWER, phase RESET_HELD, every block at the values its chapter
gives (R1, R33, R52, R67, R83, R106, R128, R143, R155, R167, R180). -/
def State.reset : State where
  channels := Quad.const channelAtReset
  targets := Quad.const 0
  drive := Quad.const driveAtReset
  scanner := scannerAtReset
  seq := sequencerAtReset
  store := storeAtReset
  nv := nvAtReset blankPages blankPages
  log := logAtReset
  link := linkAtReset (lineRate pinsAtPowerUp)
  notices := noticesAtReset
  startup := startUpAtReset .power
  pins := pinsAtPowerUp
  pending := []

end Sys2Proof.Machine
end

