-- ==== Sys2Proof/Machine/Operands.lean ====
section
/-! DEFINITION. The fields of messages: their encoding (R178), the codes of enumerated values, the layouts of the central
payloads (section 10.11), the frame and its check (R166), and the fields of the requests with their ranges. -/

namespace Sys2Proof.Machine

/-! ## Plain fields (R178) -/

/-- One byte. -/
def byteOf (n : Nat) : Byte := BitVec.ofNat 8 n

/-- Two bytes, little-endian. -/
def le16 (n : Nat) : List Byte := [byteOf n, byteOf (n / 256)]

/-- Two bytes, little-endian, two's complement. -/
def le16i (i : Int) : List Byte := le16 (i % 65536).toNat

/-- Four bytes, little-endian. -/
def le32 (w : W32) : List Byte :=
  [w.extractLsb' 0 8, w.extractLsb' 8 8, w.extractLsb' 16 8, w.extractLsb' 24 8]

/-- A boolean, one byte. -/
def boolByte (b : Bool) : Byte := if b then 1 else 0

/-- An optional field: a presence byte, then the field when present. -/
def optField (o : Option (List Byte)) : List Byte :=
  match o with
  | none => [0]
  | some f => 1 :: f

/-- The value of two bytes, little-endian. -/
def u16 (lo hi : Byte) : Nat := lo.toNat + 256 * hi.toNat

/-- The signed value of two bytes, little-endian, two's complement. -/
def i16 (lo hi : Byte) : Int := if u16 lo hi < 32768 then (u16 lo hi : Int) else (u16 lo hi : Int) - 65536

/-- The value of four bytes, little-endian. -/
def u32 (b0 b1 b2 b3 : Byte) : W32 := b3 ++ b2 ++ b1 ++ b0

/-- A byte-sized count at its limit (lost_after, R157). -/
def saturate255 (n : Nat) : Nat := if n < 255 then n else 255

/-! ## Codes of enumerated values -/

/-- R154: states travel in the order of the state table. -/
def ChState.code : ChState → Nat
  | .disabled => 0 | .qualifying => 1 | .held => 2 | .ramping => 3
  | .active => 4 | .windingDown => 5 | .tripped => 6 | .locked => 7

/-- R154: causes travel in the order of the table of R2. -/
def Cause.code : Cause → Nat
  | .request => 0 | .hold => 1 | .release => 2 | .trip => 3 | .thermal => 4 | .retryDue => 5
  | .supply => 6 | .ready => 7 | .commit => 8 | .settled => 9 | .parked => 10 | .start => 11

/-- R6: the wait-reason set as a mask. -/
def WaitSet.mask (w : WaitSet) : Nat :=
  (if w.supply then 1 else 0) + (if w.temperature then 2 else 0) + (if w.thermal then 4 else 0)
    + (if w.profile then 8 else 0) + (if w.coverage then 16 else 0)

/-- R144. -/
def kindCode : TripKind → Nat
  | .oc => 0 | .hr => 1 | .lf => 2 | .ot => 3

/-- R144. -/
def Action.code : Action → Nat
  | .retry => 0 | .lock => 1 | .stop => 2 | .report => 3

/-- R13. -/
def ChanResult.code : ChanResult → Nat
  | .done => 0 | .noChange => 1 | .notApplicable => 2

/-- R102. -/
def Policy.code : Policy → Nat
  | .latch => 0 | .retry => 1 | .report => 2

/-- R50. -/
def Limit.code : Limit → Nat
  | .none => 0 | .floor => 1 | .ceiling => 2

/-- R100. -/
def Warning.code : Warning → Nat
  | .normal => 0 | .high => 1 | .low => 2

/-- R100. -/
def Rotation.code : Rotation → Nat
  | .restricted => 0 | .full => 1

/-- R154. -/
def ResetCause.code : ResetCause → Nat
  | .power => 0 | .pin => 1 | .request => 2

/-- R154. -/
def RecallOutcome.code : RecallOutcome → Nat
  | .slotA => 0 | .slotB => 1 | .factory => 2

/-- R134. -/
def SlotName.code : SlotName → Nat
  | .a => 0 | .b => 1

/-- R154. -/
def EditCause.code : EditCause → Nat
  | .timeout => 0 | .level => 1 | .bye => 2 | .linkReset => 3

/-- R153: the kind codes of notices. -/
def NoticeKind.code : NoticeKind → Nat
  | .start => 1 | .channel => 2 | .trip => 3 | .warning => 4 | .supply => 5 | .store => 6 | .editClosed => 7

/-- R180. -/
def Level.code : Level → Nat
  | .observe => 0 | .operate => 1 | .calibrate => 2

/-- R175. -/
def Status.code : Status → Nat
  | .ok => 0 | .accepted => 1 | .unknown => 2 | .length => 3 | .range => 4 | .state => 5 | .busy => 6
  | .denied => 7 | .noSession => 8 | .noEdit => 9 | .invalid => 10 | .inUse => 11 | .lockout => 12 | .overrun => 13

/-- R82: the kind index of a channel point. -/
def ChanPoint.index : ChanPoint → Nat
  | .cur => 0 | .fwd => 1 | .ref => 2

/-- R82: the point index 0..13. -/
def Point.index : Point → Nat
  | .temp => 0
  | .supply => 1
  | .chan n k => 2 + 3 * n.val + k.index

/-- R82: the fourteen points in index order. -/
def allPoints : List Point :=
  [.temp, .supply,
   .chan 0 .cur, .chan 0 .fwd, .chan 0 .ref, .chan 1 .cur, .chan 1 .fwd, .chan 1 .ref,
   .chan 2 .cur, .chan 2 .fwd, .chan 2 .ref, .chan 3 .cur, .chan 3 .fwd, .chan 3 .ref]

/-- The member for one kind of channel point. -/
def PerChanPoint.get {α : Type} (p : PerChanPoint α) : ChanPoint → α
  | .cur => p.cur
  | .fwd => p.fwd
  | .ref => p.ref

/-- The members with the one for `k` replaced. -/
def PerChanPoint.set {α : Type} (p : PerChanPoint α) (k : ChanPoint) (a : α) : PerChanPoint α :=
  match k with
  | .cur => { p with cur := a }
  | .fwd => { p with fwd := a }
  | .ref => { p with ref := a }

/-- The member for one measured point. -/
def PerPoint.get {α : Type} (p : PerPoint α) : Point → α
  | .temp => p.temp
  | .supply => p.supply
  | .chan n k => (p.chans.get n).get k

/-- The members with the one for a measured point replaced. -/
def PerPoint.set {α : Type} (p : PerPoint α) (q : Point) (a : α) : PerPoint α :=
  match q with
  | .temp => { p with temp := a }
  | .supply => { p with supply := a }
  | .chan n k => { p with chans := p.chans.set n ((p.chans.get n).set k a) }

/-- R82: the least result of a point. -/
def Point.least : Point → Int
  | .temp => -880
  | _ => 0

/-- R82: the greatest result of a point. -/
def Point.greatest : Point → Int
  | .temp => 2400
  | .supply => 6000
  | .chan _ _ => 4095

/-- R82: the front end delivers a value outside the range of the point as the nearer end of the range. -/
def Point.deliver (p : Point) (v : Int) : Int :=
  if v < p.least then p.least else if v > p.greatest then p.greatest else v

/-- R66: the channel of a trip point. -/
def pointChan (p : PointNumber) : Chan := ⟨p.val / 3, by omega⟩

/-- R66: the kind of a trip point. -/
def pointKind (p : PointNumber) : FastKind :=
  match p.val % 3 with
  | 0 => .oc
  | 1 => .hr
  | _ => .lf

/-- R66: the point number of a channel's point. -/
def pointNumber (n : Chan) (k : FastKind) : PointNumber :=
  match k with
  | .oc => ⟨3 * n.val, by omega⟩
  | .hr => ⟨3 * n.val + 1, by omega⟩
  | .lf => ⟨3 * n.val + 2, by omega⟩

/-- R144: the trip kind of a scanner point's kind. -/
def FastKind.trip : FastKind → TripKind
  | .oc => .oc
  | .hr => .hr
  | .lf => .lf

/-! ## Layouts (section 10.11) -/

/-- R154: the kind of a notice body. -/
def NoticeBody.kind : NoticeBody → NoticeKind
  | .start .. => .start
  | .channel .. => .channel
  | .trip .. => .trip
  | .warning .. => .warning
  | .supply .. => .supply
  | .store .. => .store
  | .editClosed .. => .editClosed

/-- R154, R178: the bytes of a notice body. -/
def NoticeBody.bytes : NoticeBody → List Byte
  | .start cause outcome generation => [byteOf cause.code, byteOf outcome.code] ++ le32 generation
  | .channel n before after cause wait =>
      [byteOf n.val, byteOf before.code, byteOf after.code, byteOf cause.code]
        ++ optField (wait.map fun w => [byteOf w.mask])
  | .trip number n kind action =>
      le16 number.toNat ++ [byteOf n.val, byteOf (kindCode kind), byteOf action.code]
  | .warning p state smoothed => [byteOf p.index, byteOf state.code] ++ le16i smoothed
  | .supply ok smoothed band => [boolByte ok] ++ le16i smoothed ++ [byteOf band.val]
  | .store done slot generation => [boolByte (!done), byteOf slot.code] ++ le32 generation
  | .editClosed cause => [byteOf cause.code]

/-- Section 10.11: the bytes of a fault record, 23 without a snapshot and 29 with one. -/
def FaultRecord.bytes (r : FaultRecord) : List Byte :=
  le16 r.number.toNat ++ le32 r.uptime
    ++ [byteOf r.channel.val, byteOf (kindCode r.kind), byteOf r.stateAtTrip.code, byteOf r.action.code,
        byteOf r.retryCount]
    ++ le16 r.output ++ le16 r.target ++ le16i r.temperature ++ [byteOf r.band.val] ++ le32 r.generation
    ++ optField (r.snapshot.map fun p => le16i p.cur ++ le16i p.fwd ++ le16i p.ref)

/-- R110: the breakpoints of a curve as they travel after their count. -/
def breakpointBytes (curve : List Breakpoint) : List Byte :=
  curve.flatMap fun b => le16i b.temp ++ le16 b.code

/-- R111: the fields of PUT_CHANNEL after the channel. -/
def ChannelProfile.bytes (p : ChannelProfile) : List Byte :=
  [boolByte p.usable, boolByte p.startEnabled, boolByte p.holdClearsLock, boolByte p.faultLine]
    ++ le16i p.trim.c0 ++ le16i p.trim.c1 ++ le16i p.trim.c2 ++ le16i p.trim.c3
    ++ le16 p.floor ++ le16 p.ceiling ++ le16 p.park
    ++ [byteOf p.slew, byteOf p.blanking, byteOf p.retryDelay, byteOf p.retryBudget, byteOf p.stableTime,
        byteOf p.otPolicy.code]

/-- R117: the settings of one trip point in the TRIPS section. -/
def TripSetting.bytes (t : TripSetting) : List Byte :=
  le16 t.threshold ++ [byteOf t.confirm, byteOf t.policy.code]

/-- R114: the fields of PUT_WINDOW after the point. -/
def Window.bytes (w : Window) : List Byte := le16i w.high ++ le16i w.low ++ le16i w.hyst ++ [byteOf w.depth]

/-- R115: the fields of PUT_SUPPLY. -/
def SupplySettings.bytes (p : SupplySettings) : List Byte :=
  le16 p.e1 ++ le16 p.e2 ++ le16 p.e3 ++ [byteOf p.hyst] ++ le16 p.driveMin ++ le16 p.driveMax
    ++ le16i p.thermalLimit ++ [byteOf p.thermalHyst]

/-- R100: the record of a point in a READ_POINTS reply, 11 bytes. -/
def PointRecord.bytes (p : Point) (r : PointRecord) : List Byte :=
  [byteOf p.index, boolByte r.valid, byteOf r.warning.code] ++ le16i r.raw ++ le16i r.smoothed ++ le32 r.uptime

/-- R175: a reply payload begins with the status. -/
def Answer.bytes (a : Answer) : List Byte := byteOf a.status.code :: a.fields

/-- A reply that carries the status alone. -/
def Answer.only (st : Status) : Answer := ⟨st, []⟩

/-- A reply with status OK and the fields given. -/
def Answer.okWith (fields : List Byte) : Answer := ⟨.ok, fields⟩

/-! ## The frame (R166) -/

/-- R166: one bit of the check: the bit fed in and the register's top bit decide whether the polynomial is subtracted. -/
def crcBit (reg : BitVec 16) (bit : Bool) : BitVec 16 :=
  if reg.getLsbD 15 != bit then (reg <<< 1) ^^^ Config.crcPolynomial else reg <<< 1

/-- R166: one byte of the check, most significant bit first. -/
def crcByte (reg : BitVec 16) (b : Byte) : BitVec 16 :=
  [7, 6, 5, 4, 3, 2, 1, 0].foldl (fun r i => crcBit r (b.getLsbD i)) reg

/-- R166: the check over the length byte through the last payload byte. -/
def crc (bytes : List Byte) : BitVec 16 := bytes.foldl crcByte Config.crcPreset

/-- R166: the check as it travels, low byte first. -/
def crcBytes (bytes : List Byte) : List Byte := le16 (crc bytes).toNat

/-- R166: the bytes of a frame after its marker, but for the check: length, class, code, tag, payload. -/
def frameBody (cls code tag : Byte) (payload : List Byte) : List Byte :=
  byteOf (payload.length + 3) :: cls :: code :: tag :: payload

/-- R166: a whole frame. -/
def frameBytes (cls code tag : Byte) (payload : List Byte) : List Byte :=
  byteOf Config.marker :: (frameBody cls code tag payload ++ crcBytes (frameBody cls code tag payload))

/-- R164: the payload of a notice frame: lost_after, then the body. -/
def Notice.payload (n : Notice) : List Byte := byteOf n.lostAfter :: n.body.bytes

/-- The bytes on TXD of the frame the transmitter holds: class 2 for a reply (R175), class 3 for a notice (R164). -/
def TxFrame.bytes : TxFrame → List Byte
  | .idle => []
  | .reply r _ => frameBytes 2 r.code r.tag r.payload
  | .notice n => frameBytes 3 (byteOf n.body.kind.code) n.seq n.payload

/-! ## Fields of requests with their ranges (R102, R103) -/

/-- A natural number in lo..hi. -/
def natIn (lo hi n : Nat) : Option Nat := if lo ≤ n ∧ n ≤ hi then some n else none

/-- An integer in lo..hi. -/
def intIn (lo hi i : Int) : Option Int := if lo ≤ i ∧ i ≤ hi then some i else none

/-- A flag, 0 or 1. -/
def flagIn (b : Byte) : Option Bool := if b = 0 then some false else if b = 1 then some true else none

/-- A channel number, 0..3. -/
def chanIn (b : Byte) : Option Chan := if h : b.toNat < 4 then some ⟨b.toNat, h⟩ else none

/-- R66: a point number, 0..11. -/
def pointNumberIn (b : Byte) : Option PointNumber := if h : b.toNat < 12 then some ⟨b.toNat, h⟩ else none

/-- R82: a point index, 0..13. -/
def pointIn (b : Byte) : Option Point := allPoints[b.toNat]?

/-- R112: the kind of a PUT_TRIP. -/
def fastKindIn (b : Byte) : Option FastKind :=
  if b = 0 then some .oc else if b = 1 then some .hr else if b = 2 then some .lf else none

/-- R112: a policy of a trip point; REPORT is for LF alone. -/
def tripPolicyIn (k : FastKind) (b : Byte) : Option Policy :=
  if b = 0 then some .latch else if b = 1 then some .retry
  else if b = 2 ∧ k = .lf then some .report else none

/-- R111: an OT policy, LATCH or RETRY. -/
def otPolicyIn (b : Byte) : Option Policy := if b = 0 then some .latch else if b = 1 then some .retry else none

/-- R180, R185: a level 0..2. -/
def levelIn (b : Byte) : Option Level :=
  if b = 0 then some .observe else if b = 1 then some .operate else if b = 2 then some .calibrate else none

/-- R13: a channel mask, 1..15. -/
def chanMaskIn (b : Byte) : Option Byte := if 1 ≤ b.toNat ∧ b.toNat ≤ 15 then some b else none

/-- R34, R102: breakpoint temperatures rise strictly. -/
def risesStrictly : List Breakpoint → Bool
  | a :: b :: rest => decide (a.temp < b.temp) && risesStrictly (b :: rest)
  | _ => true

/-- R102: a breakpoint's ranges. -/
def Breakpoint.inRange (b : Breakpoint) : Bool := decide (-55 ≤ b.temp ∧ b.temp ≤ 150 ∧ b.code ≤ 4095)

/-- R34, R102: a curve of 2..16 breakpoints in range, temperatures rising strictly. -/
def curveOk (curve : List Breakpoint) : Bool :=
  decide (2 ≤ curve.length ∧ curve.length ≤ Config.maxBreakpoints) && curve.all Breakpoint.inRange
    && risesStrictly curve

/-- R110: the breakpoints of a PUT_CURVE, four bytes each. -/
def breakpointsIn : List Byte → Option (List Breakpoint)
  | [] => some []
  | t0 :: t1 :: c0 :: c1 :: rest => (breakpointsIn rest).map (⟨i16 t0 t1, u16 c0 c1⟩ :: ·)
  | _ => none

/-- R110: PUT_CURVE. -/
def putCurveIn : List Byte → Option (Chan × List Breakpoint)
  | ch :: count :: rest => do
      let n ← chanIn ch
      let curve ← breakpointsIn rest
      if curve.length = count.toNat ∧ curveOk curve then some (n, curve) else none
  | _ => none

/-- R111: PUT_CHANNEL, laid over the profile whose curve and trip settings stay. -/
def putChannelIn (payload : List Byte) (was : Chan → ChannelProfile) : Option (Chan × ChannelProfile) :=
  match payload with
  | [ch, us, se, hc, fl, a0, a1, b0, b1, c0, c1, d0, d1, f0, f1, g0, g1, p0, p1, sl, bl, rd, rb, st, ot] => do
      let n ← chanIn ch
      let usable ← flagIn us
      let startEnabled ← flagIn se
      let holdClearsLock ← flagIn hc
      let faultLine ← flagIn fl
      let t0 ← intIn (-512) 511 (i16 a0 a1)
      let t1 ← intIn (-512) 511 (i16 b0 b1)
      let t2 ← intIn (-512) 511 (i16 c0 c1)
      let t3 ← intIn (-512) 511 (i16 d0 d1)
      let floor ← natIn 0 4095 (u16 f0 f1)
      let ceiling ← natIn 0 4095 (u16 g0 g1)
      let park ← natIn 0 4095 (u16 p0 p1)
      let slew ← natIn 1 255 sl.toNat
      let blanking ← natIn 1 255 bl.toNat
      let retryDelay ← natIn 1 255 rd.toNat
      let retryBudget ← natIn 0 15 rb.toNat
      let stableTime ← natIn 1 255 st.toNat
      let otPolicy ← otPolicyIn ot
      some (n, { was n with
        usable, startEnabled, holdClearsLock, faultLine, trim := ⟨t0, t1, t2, t3⟩, floor, ceiling, park, slew, blanking,
        retryDelay, retryBudget, stableTime, otPolicy })
  | _ => none

/-- R112: PUT_TRIP. -/
def putTripIn : List Byte → Option (Chan × FastKind × TripSetting)
  | [ch, k, t0, t1, cf, po] => do
      let n ← chanIn ch
      let kind ← fastKindIn k
      let threshold ← natIn 0 1023 (u16 t0 t1)
      let confirm ← natIn 1 4 cf.toNat
      let policy ← tripPolicyIn kind po
      some (n, kind, ⟨threshold, confirm, policy⟩)
  | _ => none

/-- R113: PUT_SCAN_LIST. -/
def putScanListIn : List Byte → Option (List PointNumber)
  | count :: rest =>
      if 1 ≤ count.toNat ∧ count.toNat ≤ Config.maxScanSlots ∧ rest.length = count.toNat then
        rest.mapM pointNumberIn
      else none
  | [] => none

/-- R114: PUT_WINDOW; the two-byte fields are signed for TEMP. -/
def putWindowIn : List Byte → Option (Point × Window)
  | [pt, h0, h1, l0, l1, y0, y1, dp] => do
      let p ← pointIn pt
      let value := fun lo hi => if p = .temp then i16 lo hi else (u16 lo hi : Int)
      let high ← intIn p.least p.greatest (value h0 h1)
      let low ← intIn p.least p.greatest (value l0 l1)
      let hyst ← intIn 0 (p.greatest - p.least) (value y0 y1)
      let depth ← natIn 0 3 dp.toNat
      some (p, ⟨high, low, hyst, depth⟩)
  | _ => none

/-- R115: PUT_SUPPLY. -/
def putSupplyIn : List Byte → Option SupplySettings
  | [a0, a1, b0, b1, c0, c1, hy, m0, m1, x0, x1, l0, l1, th] => do
      let e1 ← natIn 0 6000 (u16 a0 a1)
      let e2 ← natIn 0 6000 (u16 b0 b1)
      let e3 ← natIn 0 6000 (u16 c0 c1)
      let driveMin ← natIn 0 6000 (u16 m0 m1)
      let driveMax ← natIn 0 6000 (u16 x0 x1)
      let thermalLimit ← intIn (-55) 150 (i16 l0 l1)
      let thermalHyst ← natIn 1 50 th.toNat
      some ⟨e1, e2, e3, hy.toNat, driveMin, driveMax, thermalLimit, thermalHyst⟩
  | _ => none

/-! ## The request index (section 10.10) -/

/-- Section 10.10: the requests of the index. -/
inductive RequestName where
  | hello | bye | identify | setLevel | setNoticeMask | ackNotices | resetPart
  | enable | disable | clear | softHold | channelStatus
  | evalCurve | readScan | readPoints
  | openEdit | abandonEdit | putCurve | putChannel | putTrip | putScanList | putWindow | putSupply | putAccessCode
  | putLabel | getProfile | commit
  | persist | revert | storeStatus
  | readLog | clearLog
deriving DecidableEq, Repr

/-- Section 10.10: the requests in the order of the index. -/
def allRequests : List RequestName :=
  [.hello, .bye, .identify, .setLevel, .setNoticeMask, .ackNotices, .resetPart, .enable, .disable, .clear, .softHold,
   .channelStatus, .evalCurve, .readScan, .readPoints, .openEdit, .abandonEdit, .putCurve, .putChannel, .putTrip,
   .putScanList, .putWindow, .putSupply, .putAccessCode, .putLabel, .getProfile, .commit, .persist, .revert,
   .storeStatus, .readLog, .clearLog]

/-- Section 10.10: the code of a request. -/
def RequestName.code : RequestName → Byte
  | .hello => 0x01 | .bye => 0x02 | .identify => 0x03 | .setLevel => 0x04 | .setNoticeMask => 0x05
  | .ackNotices => 0x06 | .resetPart => 0x07
  | .enable => 0x10 | .disable => 0x11 | .clear => 0x12 | .softHold => 0x13 | .channelStatus => 0x14
  | .evalCurve => 0x19 | .readScan => 0x1C | .readPoints => 0x20
  | .openEdit => 0x30 | .abandonEdit => 0x31 | .putCurve => 0x32 | .putChannel => 0x33 | .putTrip => 0x34
  | .putScanList => 0x35 | .putWindow => 0x36 | .putSupply => 0x37 | .putAccessCode => 0x38 | .putLabel => 0x39
  | .getProfile => 0x3A | .commit => 0x3B
  | .persist => 0x40 | .revert => 0x41 | .storeStatus => 0x42
  | .readLog => 0x48 | .clearLog => 0x49

/-- Section 10.10: the request a code names, if the index has it. -/
def requestOfCode (code : Byte) : Option RequestName := allRequests.find? fun r => decide (r.code = code)

/-- Section 10.10: the level a request needs; HELLO and IDENTIFY pass at any level. -/
def RequestName.level : RequestName → Level
  | .hello | .identify => .observe
  | .bye | .setLevel | .setNoticeMask | .ackNotices | .channelStatus | .evalCurve | .readScan | .readPoints
  | .getProfile | .storeStatus | .readLog => .observe
  | .resetPart | .enable | .disable | .clear | .softHold => .operate
  | .openEdit | .abandonEdit | .putCurve | .putChannel | .putTrip | .putScanList | .putWindow | .putSupply
  | .putAccessCode | .putLabel | .commit | .persist | .revert | .clearLog => .calibrate

/-- R174 step 4, R180: the requests served while the session is CLOSED. -/
def RequestName.servedClosed : RequestName → Bool
  | .hello | .identify => true
  | _ => false

/-- R174 step 6, section 10.10: whether a payload has the length the index gives. -/
def RequestName.lengthOk (r : RequestName) (payload : List Byte) : Bool :=
  match r with
  | .hello | .bye | .identify | .resetPart | .readScan | .openEdit | .abandonEdit | .persist | .revert | .storeStatus
  | .clearLog => decide (payload.length = 0)
  | .setNoticeMask | .ackNotices | .enable | .disable | .clear | .channelStatus | .commit => decide (payload.length = 1)
  | .softHold | .readPoints => decide (payload.length = 2)
  | .getProfile | .readLog => decide (payload.length = 3)
  | .putAccessCode | .putLabel => decide (payload.length = 4)
  | .setLevel | .evalCurve => decide (payload.length = 5)
  | .putTrip => decide (payload.length = 6)
  | .putWindow => decide (payload.length = 8)
  | .putSupply => decide (payload.length = 14)
  | .putChannel => decide (payload.length = 25)
  | .putCurve =>
      match payload with
      | _ :: count :: _ => decide (payload.length = 2 + 4 * count.toNat)
      | _ => false
  | .putScanList =>
      match payload with
      | count :: _ => decide (payload.length = 1 + count.toNat)
      | [] => false

end Sys2Proof.Machine
end

