-- ==== Sys2Proof/Machine/Flags.lean ====
section
/-! DEFINITION. Conditions computed from the state: the output lines, hold, wait reasons, the sampling condition, warnings,
supply status and band, over-temperature, and the commit checks. Nothing here changes the state. -/

namespace Sys2Proof.Machine

/-! ## Channel states -/

/-- Section 1.1: RAMPING, ACTIVE, WINDING_DOWN and TRIPPED are running. -/
def ChState.isRunning : ChState → Bool
  | .ramping | .active | .windingDown | .tripped => true
  | .disabled | .qualifying | .held | .locked => false

/-- R19: the states in which a channel carries out a confirmed trip. -/
def ChState.takesTrips : ChState → Bool
  | .ramping | .active | .windingDown => true
  | .disabled | .qualifying | .held | .tripped | .locked => false

/-- R31: the states in which FASTOFF is asserted. -/
def ChState.isFaulted : ChState → Bool
  | .tripped | .locked => true
  | .disabled | .qualifying | .held | .ramping | .active | .windingDown => false

/-- The channel profile of channel `n` in the active profile. -/
def State.prof (s : State) (n : Chan) : ChannelProfile := s.store.active.channels.get n

/-- R3: hold is effective while the HOLD pin is asserted or the soft hold is on. -/
def State.holdEffective (s : State) (n : Chan) : Bool := s.pins.hold.get n || (s.channels.get n).softHold

/-! ## Output lines -/

/-- R31: FASTOFF of channel `n`. -/
def State.fastOff (s : State) (n : Chan) : Bool := (s.channels.get n).state.isFaulted

/-- R31: the FAULT line. -/
def State.faultAsserted (s : State) : Bool := allChans.any fun n => (s.prof n).faultLine && s.fastOff n

/-- R163: the ATTN line. -/
def State.attn (s : State) : Bool := !s.notices.queue.isEmpty

/-- R53: what the bias output of channel `n` presents; nothing while UNDRIVEN. -/
def State.biasOutput (s : State) (n : Chan) : Option Nat :=
  match (s.drive.get n).mode with
  | .undriven => none
  | .parked | .track | .wind => some (s.drive.get n).output

/-! ## Wait reasons (R6) -/

/-- R6, R75: the scan list holds both the OC and the HR point of channel `n`. -/
def covered (scanList : List PointNumber) (n : Chan) : Bool :=
  scanList.contains (pointNumber n .oc) && scanList.contains (pointNumber n .hr)

/-- R83, R94: the temperature validity. -/
def State.tempValid (s : State) : Bool := s.seq.records.temp.valid

/-- R6: the wait-reason set of channel `n`, evaluated now. -/
def State.waitReasons (s : State) (n : Chan) : WaitSet where
  supply := !s.seq.supplyOk
  temperature := !s.tempValid
  thermal := s.seq.overTemp
  profile := !(s.prof n).usable
  coverage := !covered s.store.active.scanList n

/-- The set is empty. -/
def WaitSet.isEmpty (w : WaitSet) : Bool := !(w.supply || w.temperature || w.thermal || w.profile || w.coverage)

/-! ## The sampling condition (R69) -/

/-- R69: whether samples of a kind count in a channel state with a blanking timer. -/
def sampleCounts (st : ChState) (blanking : BlankTimer) (k : FastKind) : Bool :=
  match st, k with
  | .ramping, .oc | .ramping, .hr => true
  | .ramping, .lf => decide (blanking = .expired)
  | .active, _ => true
  | .windingDown, .oc | .windingDown, .hr => true
  | .windingDown, .lf => false
  | .disabled, _ | .qualifying, _ | .held, _ | .tripped, _ | .locked, _ => false

/-- R66: the settings of a trip point in a profile. -/
def ChannelProfile.setting (p : ChannelProfile) : FastKind → TripSetting
  | .oc => p.oc
  | .hr => p.hr
  | .lf => p.lf

/-- R66: a sense is beyond when it is above the threshold, for LF when it is below. -/
def beyond (k : FastKind) (threshold : Nat) (sense : BitVec 10) : Bool :=
  match k with
  | .oc | .hr => decide (sense.toNat > threshold)
  | .lf => decide (sense.toNat < threshold)

/-! ## Trips (R20) -/

/-- R20: the policy of a trip kind. -/
def ChannelProfile.policy (p : ChannelProfile) : TripKind → Policy
  | .oc => p.oc.policy
  | .hr => p.hr.policy
  | .lf => p.lf.policy
  | .ot => p.otPolicy

/-- R19, R20, R24: the action of a confirmed trip. -/
def chooseAction (st : ChState) (p : Policy) (retryCount retryBudget : Nat) : Action :=
  if st = .windingDown then .stop
  else
    match p with
    | .report => .report
    | .retry => if retryCount < retryBudget then .retry else .lock
    | .latch => .lock

/-! ## Warnings (R89) -/

/-- R89: the next warning state for a smoothed value. -/
def nextWarning (w : Warning) (win : Window) (v : Int) : Warning :=
  match w with
  | .normal => if v > win.high then .high else if v < win.low then .low else .normal
  | .high => if v < win.low then .low else if v ≤ win.high - win.hyst then .normal else .high
  | .low => if v > win.high then .high else if v ≥ win.low + win.hyst then .normal else .low

/-! ## Supply and temperature (R92, R93, R95, R96) -/

/-- R93: the supply band with hysteresis, from the present band. -/
def nextBand (b : Fin 4) (p : SupplySettings) (s : Int) : Fin 4 :=
  if b < 3 ∧ s ≥ p.e3 then 3
  else if b < 2 ∧ s ≥ p.e2 then 2
  else if b < 1 ∧ s ≥ p.e1 then 1
  else if 3 ≤ b ∧ s ≥ (p.e3 : Int) - p.hyst then 3
  else if 2 ≤ b ∧ s ≥ (p.e2 : Int) - p.hyst then 2
  else if 1 ≤ b ∧ s ≥ (p.e1 : Int) - p.hyst then 1
  else 0

/-- R92: the supply status with hysteresis, from the present status (`true` is OK). -/
def nextSupplyOk (ok : Bool) (p : SupplySettings) (s : Int) : Bool :=
  if ok then !decide (s < p.driveMin ∨ s > p.driveMax)
  else decide ((p.driveMin : Int) + p.hyst ≤ s ∧ s ≤ (p.driveMax : Int) - p.hyst)

/-- R95: the over-temperature condition with hysteresis, from the present condition (`true` is set). -/
def nextOverTemp (isSet : Bool) (p : SupplySettings) (t16 : Int) : Bool :=
  if isSet then !decide (t16 < 16 * (p.thermalLimit - p.thermalHyst)) else decide (t16 ≥ 16 * p.thermalLimit)

/-- R96: the number of edges at or below the smoothed supply, without history. -/
def freshBand (valid : Bool) (p : SupplySettings) (s : Int) : Fin 4 :=
  if valid then
    (if s ≥ p.e1 then 1 else 0) + (if s ≥ p.e2 then 1 else 0) + (if s ≥ p.e3 then 1 else 0)
  else 0

/-- R96: the supply status without history. -/
def freshSupplyOk (valid : Bool) (p : SupplySettings) (s : Int) : Bool :=
  valid && decide ((p.driveMin : Int) ≤ s ∧ s ≤ p.driveMax)

/-- R96: the over-temperature condition without history. -/
def freshOverTemp (valid : Bool) (p : SupplySettings) (t16 : Int) : Bool :=
  valid && decide (t16 ≥ 16 * p.thermalLimit)

/-- R87: first-order smoothing of depth `d`, the quotient truncated toward zero. -/
def smooth (valid : Bool) (smoothed raw : Int) (d : Nat) : Int :=
  if valid then smoothed + (raw - smoothed).tdiv (2 ^ d) else raw

/-! ## Ranges and commit checks (R102, R103, R120) -/

/-- R102: the settings of one trip point are in range; REPORT is for LF alone. -/
def TripSetting.inRange (t : TripSetting) (k : FastKind) : Bool :=
  decide (t.threshold ≤ 1023 ∧ 1 ≤ t.confirm ∧ t.confirm ≤ 4 ∧ (t.policy = .report → k = .lf))

/-- R102: every field of a channel profile is in range. -/
def ChannelProfile.inRange (p : ChannelProfile) : Bool :=
  curveOk p.curve && p.trim.toList.all (fun t => decide (-512 ≤ t ∧ t ≤ 511))
    && decide (p.floor ≤ 4095 ∧ p.ceiling ≤ 4095 ∧ p.park ≤ 4095 ∧ 1 ≤ p.slew ∧ p.slew ≤ 255
      ∧ 1 ≤ p.blanking ∧ p.blanking ≤ 255 ∧ 1 ≤ p.retryDelay ∧ p.retryDelay ≤ 255 ∧ p.retryBudget ≤ 15
      ∧ 1 ≤ p.stableTime ∧ p.stableTime ≤ 255 ∧ p.otPolicy ≠ .report)
    && p.oc.inRange .oc && p.hr.inRange .hr && p.lf.inRange .lf

/-- R103: a warning window is in range of its point. -/
def Window.inRange (w : Window) (p : Point) : Bool :=
  decide (p.least ≤ w.high ∧ w.high ≤ p.greatest ∧ p.least ≤ w.low ∧ w.low ≤ p.greatest
    ∧ 0 ≤ w.hyst ∧ w.hyst ≤ p.greatest - p.least ∧ w.depth ≤ 3)

/-- R103: the supply and thermal settings are in range. -/
def SupplySettings.inRange (p : SupplySettings) : Bool :=
  decide (p.e1 ≤ 6000 ∧ p.e2 ≤ 6000 ∧ p.e3 ≤ 6000 ∧ p.hyst ≤ 255 ∧ p.driveMin ≤ 6000 ∧ p.driveMax ≤ 6000
    ∧ -55 ≤ p.thermalLimit ∧ p.thermalLimit ≤ 150 ∧ 1 ≤ p.thermalHyst ∧ p.thermalHyst ≤ 50)

/-- R102, R103: every field of a profile is in range and each curve rises (R127 step 4). -/
def Profile.inRange (p : Profile) : Bool :=
  p.channels.toList.all ChannelProfile.inRange
    && decide (1 ≤ p.scanList.length ∧ p.scanList.length ≤ Config.maxScanSlots)
    && p.supply.inRange && allPoints.all fun q => (p.windows.get q).inRange q

/-- R120: the commit checks, in order of their codes. -/
inductive CommitCheck where
  | floorCeiling | bandEdges | driveWindow | warningWindow | inUse | coverage
deriving DecidableEq, Repr

/-- R120: the code of a commit check. -/
def CommitCheck.code : CommitCheck → Nat
  | .floorCeiling => 1 | .bandEdges => 2 | .driveWindow => 3 | .warningWindow => 4 | .inUse => 5 | .coverage => 6

/-- R120: the first channel whose floor exceeds its ceiling. -/
def failsFloorCeiling (p : Profile) : Option Nat :=
  (allChans.find? fun n => decide ((p.channels.get n).floor > (p.channels.get n).ceiling)).map (·.val)

/-- R120: the first edge not above its predecessor. -/
def failsBandEdges (p : Profile) : Option Nat :=
  if p.supply.e2 ≤ p.supply.e1 then some 2 else if p.supply.e3 ≤ p.supply.e2 then some 3 else none

/-- R120: the drive window is not wider than twice the supply hysteresis. -/
def failsDriveWindow (p : Profile) : Option Nat :=
  if (p.supply.driveMax : Int) - p.supply.driveMin > 2 * p.supply.hyst then none else some 0

/-- R120: the first point whose window does not hold its relations. -/
def failsWarningWindow (p : Profile) : Option Nat :=
  (allPoints.find? fun q =>
    decide ((p.windows.get q).low ≥ (p.windows.get q).high
      ∨ (p.windows.get q).hyst ≥ (p.windows.get q).high - (p.windows.get q).low)).map Point.index

/-- R120: the first running channel that is not usable. -/
def failsInUse (p : Profile) (running : Chan → Bool) : Option Nat :=
  (allChans.find? fun n => running n && !(p.channels.get n).usable).map (·.val)

/-- R120: the first running channel without its OC or its HR point. -/
def failsCoverage (p : Profile) (running : Chan → Bool) : Option Nat :=
  (allChans.find? fun n => running n && !covered p.scanList n).map (·.val)

/-- R120: the first commit check that fails, with its index. -/
def firstFailure (p : Profile) (running : Chan → Bool) : Option (CommitCheck × Nat) :=
  ((failsFloorCeiling p).map (CommitCheck.floorCeiling, ·))
    <|> ((failsBandEdges p).map (CommitCheck.bandEdges, ·))
    <|> ((failsDriveWindow p).map (CommitCheck.driveWindow, ·))
    <|> ((failsWarningWindow p).map (CommitCheck.warningWindow, ·))
    <|> ((failsInUse p running).map (CommitCheck.inUse, ·))
    <|> ((failsCoverage p running).map (CommitCheck.coverage, ·))

/-- R127: an image's pages make a valid slot: completion mark, format version, check, ranges, and the four commit checks
that need no channel. -/
def SlotPages.valid (p : SlotPages) : Bool :=
  p.completionMark && decide (p.formatVersion = Config.imageFormat) && p.checkMatches && p.content.inRange
    && (failsFloorCeiling p.content).isNone && (failsBandEdges p.content).isNone
    && (failsDriveWindow p.content).isNone && (failsWarningWindow p.content).isNone

/-! ## Slots (R129) -/

/-- R129: the newest valid slot. -/
def newestValid (a b : SlotStatus) : Option SlotName :=
  match a.valid, b.valid with
  | true, false => some .a
  | false, true => some .b
  | true, true => if b.generation.toNat > a.generation.toNat then some .b else some .a
  | false, false => none

/-- R129: the slot to write. -/
def slotToWrite (a b : SlotStatus) : SlotName :=
  match newestValid a b with
  | some .a => .b
  | some .b => .a
  | none => .a

/-- The nonvolatile pages of a slot. -/
def NvStore.pages (v : NvStore) : SlotName → SlotPages
  | .a => v.pagesA
  | .b => v.pagesB

/-- A slot as the working state knows it. -/
def NvStore.status (v : NvStore) : SlotName → SlotStatus
  | .a => v.statusA
  | .b => v.statusB

/-- The store with the pages of a slot replaced. -/
def NvStore.setPages (v : NvStore) (n : SlotName) (p : SlotPages) : NvStore :=
  match n with
  | .a => { v with pagesA := p }
  | .b => { v with pagesB := p }

/-- The store with a slot's working state replaced. -/
def NvStore.setStatus (v : NvStore) (n : SlotName) (p : SlotStatus) : NvStore :=
  match n with
  | .a => { v with statusA := p }
  | .b => { v with statusB := p }

/-- The profile an image carries, with the generation of its header (R126). -/
def NvStore.image (v : NvStore) (n : SlotName) : Profile :=
  { (v.pages n).content with generation := (v.pages n).generation }

end Sys2Proof.Machine
end

