-- ==== Sys2Proof/Machine/SetPoint.lean ====
section
/-! DEFINITION. The Set-Point Engine's arithmetic (R35 to R40): base, trim, limits. -/

namespace Sys2Proof.Machine

/-- R36: the base on the segment from `a` to `b`, the quotient truncated toward zero. -/
def interpolate (a b : Breakpoint) (t16 : Int) : Int :=
  a.code + (((b.code : Int) - a.code) * (t16 - 16 * a.temp)).tdiv (16 * (b.temp - a.temp))

/-- R35, R36: the base from breakpoint `a` on, for a temperature not below it. -/
def baseFrom (a : Breakpoint) (rest : List Breakpoint) (t16 : Int) : Int :=
  match rest with
  | [] => a.code
  | b :: more => if t16 < 16 * b.temp then interpolate a b t16 else baseFrom b more t16

/-- R35: the base of a curve at a temperature in sixteenths. An empty curve does not occur (R34). -/
def curveBase (curve : List Breakpoint) (t16 : Int) : Int :=
  match curve with
  | [] => 0
  | a :: rest => if t16 ≤ 16 * a.temp then a.code else baseFrom a rest t16

/-- R39: the sum raised to the floor, then lowered to the ceiling, with the limit applied. -/
def limitTo (floor ceiling : Nat) (sum : Int) : Nat × Limit :=
  let raised : Int := if sum < floor then floor else sum
  if raised > ceiling then (ceiling, .ceiling)
  else if sum < floor then (floor, .floor)
  else (sum.toNat, .none)

/-- R35 to R39: base, target and limit applied of a channel profile at a temperature and band. -/
def evaluateCurve (p : ChannelProfile) (t16 : Int) (band : Fin 4) : Int × Nat × Limit :=
  (curveBase p.curve t16, limitTo p.floor p.ceiling (curveBase p.curve t16 + p.trim.get band))

/-- R40, R41: the live target of a channel; its floor while no temperature is valid. -/
def State.liveTarget (s : State) (n : Chan) : Nat :=
  if s.tempValid then (evaluateCurve (s.prof n) s.seq.records.temp.smoothed s.seq.band).2.1 else (s.prof n).floor

/-- R41 to R44: all four targets computed afresh. Each Drive Stage reads its target at its next tick (R46, R53). -/
def State.recomputeTargets (s : State) : State := { s with targets := Quad.ofFn s.liveTarget }

end Sys2Proof.Machine
end

