-- ==== Sys2Proof/Machine/Ops.lean ====
section
/-! DEFINITION. The named operations over the state that the commands share: time and timers, notices, drive orders, channel
transitions, trips and the Fault Log, the effects of a profile replacement, persistence, the close of an edit, full reset. -/

namespace Sys2Proof.Machine

/-! ## Field updates -/

/-- Channel `n` replaced. -/
def State.setChan (s : State) (n : Chan) (c : Channel) : State := { s with channels := s.channels.set n c }

/-- The Drive Stage of channel `n` replaced. -/
def State.setDrive (s : State) (n : Chan) (d : DriveStage) : State := { s with drive := s.drive.set n d }

/-- The Trip Scanner replaced. -/
def State.withScanner (s : State) (x : Scanner) : State := { s with scanner := x }

/-- The Measurement Sequencer replaced. -/
def State.withSeq (s : State) (x : Sequencer) : State := { s with seq := x }

/-- The Profile Store replaced. -/
def State.withStore (s : State) (x : ProfileStore) : State := { s with store := x }

/-- The Nonvolatile Store replaced. -/
def State.withNv (s : State) (x : NvStore) : State := { s with nv := x }

/-- The Fault Log replaced. -/
def State.withLog (s : State) (x : FaultLog) : State := { s with log := x }

/-- The Link Controller replaced. -/
def State.withLink (s : State) (x : Link) : State := { s with link := x }

/-- The Notice Queue replaced. -/
def State.withNotices (s : State) (x : NoticeQueue) : State := { s with notices := x }

/-- The Start-Up Controller replaced. -/
def State.withStartup (s : State) (x : StartUp) : State := { s with startup := x }

/-- The input pins replaced. -/
def State.withPins (s : State) (x : Pins) : State := { s with pins := x }

/-- The targets replaced. -/
def State.withTargets (s : State) (x : Quad Nat) : State := { s with targets := x }

/-! ## Time (00_scope.md 5.5; logs 3 to 5) -/

/-- `d` ms pass for a timer; it stays at 0, due, until its expiry is taken. -/
def Timer.elapse (d : Nat) : Timer → Timer
  | .stopped => .stopped
  | .running left => .running (left - d)

/-- `d` ms pass for a blanking timer. -/
def BlankTimer.elapse (d : Nat) : BlankTimer → BlankTimer
  | .stopped => .stopped
  | .running left => .running (left - d)
  | .expired => .expired

/-- R32: milliseconds to the expiry of a timer, 0 when stopped. -/
def Timer.remaining : Timer → Nat
  | .stopped => 0
  | .running left => left

/-- R32: milliseconds to blanking expiry, 0 when stopped or expired. -/
def BlankTimer.remaining : BlankTimer → Nat
  | .stopped => 0
  | .running left => left
  | .expired => 0

/-- `d` ms pass for a channel's timers. -/
def Channel.elapse (d : Nat) (c : Channel) : Channel :=
  { c with blanking := c.blanking.elapse d, retry := c.retry.elapse d, stable := c.stable.elapse d }

/-- R188: the uptime counter rises by 1 each millisecond but in RESET_HELD, and wraps. -/
def StartUp.elapse (d : Nat) (u : StartUp) : StartUp :=
  if u.phase = .resetHeld then u else { u with uptime := u.uptime + BitVec.ofNat 32 d }

/-- `d` ms pass: every running timer comes nearer its expiry and the uptime rises. -/
def State.elapse (d : Nat) (s : State) : State :=
  { s with
    channels := s.channels.map (Channel.elapse d)
    drive := s.drive.map fun x => { x with tick := x.tick.elapse d }
    seq := { s.seq with timer := s.seq.timer.elapse d }
    store := { s.store with idle := s.store.idle.elapse d }
    nv := { s.nv with op := s.nv.op.map fun o => { o with write := o.write.elapse d } }
    link := { s.link with
      gap := s.link.gap.elapse d, lowLine := s.link.lowLine.elapse d, lockout := s.link.lockout.elapse d }
    notices := { s.notices with ack := s.notices.ack.elapse d }
    startup := s.startup.elapse d }

/-! ## Notices (R156, R157) -/

/-- R157: a dropped notice raises the lost_after count of the newest queued notice. -/
def countLost : List Notice → List Notice
  | [] => []
  | [n] => [{ n with lostAfter := saturate255 (n.lostAfter + 1) }]
  | n :: rest => n :: countLost rest

/-- R153: the kind's term is present in the kind mask. -/
def NoticeQueue.admits (q : NoticeQueue) (k : NoticeKind) : Bool := q.mask.getLsbD (k.code - 1)

/-- R156: a notice is posted: discarded under the mask, dropped when the queue is full, or queued UNSENT. -/
def NoticeQueue.post (q : NoticeQueue) (body : NoticeBody) : NoticeQueue :=
  if !q.admits body.kind then q
  else if q.queue.length ≥ Config.noticeCapacity then { q with queue := countLost q.queue }
  else { q with queue := q.queue ++ [⟨body, q.nextSeq, 0, false⟩], nextSeq := q.nextSeq + 1 }

/-- R156: a notice is posted to the part's Notice Queue. -/
def State.post (s : State) (body : NoticeBody) : State := s.withNotices (s.notices.post body)

/-- R162: every SENT notice is marked UNSENT and the acknowledgement timer is cancelled. -/
def NoticeQueue.unsend (q : NoticeQueue) : NoticeQueue :=
  { q with queue := q.queue.map fun n => { n with sent := false }, ack := .stopped }

/-! ## Drive orders (R54, R58) -/

/-- R54: the track order. From PARKED the ramp starts at the park code; from WIND the output code is kept. -/
def DriveStage.track (d : DriveStage) (park : Nat) : DriveStage :=
  match d.mode with
  | .parked => ⟨park, .track, .running Config.tickPeriod⟩
  | .wind => { d with mode := .track }
  | .track | .undriven => d

/-- R54: the wind order, taken in TRACK. -/
def DriveStage.windDown (d : DriveStage) : DriveStage :=
  match d.mode with
  | .track => { d with mode := .wind }
  | .parked | .wind | .undriven => d

/-- R58: the park at once order. -/
def DriveStage.parkAtOnce (d : DriveStage) (park : Nat) : DriveStage :=
  match d.mode with
  | .track | .wind => ⟨park, .parked, .stopped⟩
  | .parked | .undriven => d

/-- R53: the order that comes with the entry into a channel state. Entering a parked state from a parked state gives no
order, and park at once changes nothing there (R58). -/
def DriveStage.orderFor (d : DriveStage) (st : ChState) (park : Nat) : DriveStage :=
  match st with
  | .ramping => d.track park
  | .active => d
  | .windingDown => d.windDown
  | .disabled | .qualifying | .held | .tripped | .locked => d.parkAtOnce park

/-! ## Channel transitions -/

/-- R74: a tally of a kind that was counted and is counted no longer is cleared, and the LF re-arm flag armed. -/
def Tallies.onChange (t : Tallies) (before after : FastKind → Bool) : Tallies where
  oc := if before .oc && !after .oc then 0 else t.oc
  hr := if before .hr && !after .hr then 0 else t.hr
  lf := if before .lf && !after .lf then 0 else t.lf
  armed := if before .lf && !after .lf then true else t.armed

/-- The blanking timer after entering a state: it starts with RAMPING (R9) and does not survive the exit from it. -/
def blankingFor (st : ChState) (p : ChannelProfile) : BlankTimer :=
  if st = .ramping then .running p.blanking else .stopped

/-- R22: the retry timer runs in TRIPPED. -/
def retryFor (st : ChState) (p : ChannelProfile) : Timer :=
  if st = .tripped then .running (p.retryDelay * 10) else .stopped

/-- R12: the stable timer runs in ACTIVE, stable_time in seconds. -/
def stableFor (st : ChState) (p : ChannelProfile) : Timer :=
  if st = .active then .running (p.stableTime * 1000) else .stopped

/-- A channel on entering another state: wait-reason set empty (R6), the timers of the state left cancelled and those of the
state entered started (R4, R9, R12, R15, R22, R23, R27). -/
def Channel.enter (c : Channel) (st : ChState) (p : ChannelProfile) : Channel :=
  { c with
    state := st
    wait := noWait
    blanking := blankingFor st p
    retry := retryFor st p
    stable := stableFor st p }

/-- A record with its warning state NORMAL. -/
def PointRecord.quiet (r : PointRecord) : PointRecord := { r with warning := .normal }

/-- R91: when a channel leaves ACTIVE its three points' warning states become NORMAL, without a notice. -/
def Sequencer.clearWarnings (q : Sequencer) (n : Chan) : Sequencer :=
  let r := q.records.chans.get n
  let quiet : PerChanPoint PointRecord := ⟨r.cur.quiet, r.fwd.quiet, r.ref.quiet⟩
  { q with records := { q.records with chans := q.records.chans.set n quiet } }

/-- R143: a point's mark at an entry into RAMPING: set if its last completion was in the same millisecond. -/
def freshMark (r : PointRecord) (now : W32) : Bool := r.valid && decide (r.uptime = now)

/-- R143: the entry of channel `n` into RAMPING as the Fault Log takes it. -/
def FaultLog.rampEntered (l : FaultLog) (n : Chan) (now : W32) (r : PerChanPoint PointRecord) : FaultLog :=
  { l with
    rampEntry := l.rampEntry.set n (some now)
    marks := l.marks.set n ⟨freshMark r.cur now, freshMark r.fwd now, freshMark r.ref now⟩ }

/-- The Fault Log when channel `n` enters a state: only RAMPING is noted. -/
def State.logOnEntry (s : State) (n : Chan) (st : ChState) : FaultLog :=
  if st = .ramping then s.log.rampEntered n s.startup.uptime (s.seq.records.chans.get n) else s.log

/-- The Sequencer when channel `n` enters a state: leaving ACTIVE clears its warnings (R91). -/
def State.seqOnEntry (s : State) (n : Chan) (st : ChState) : Sequencer :=
  if (s.channels.get n).state = .active ∧ st ≠ .active then s.seq.clearWarnings n else s.seq

/-- The tallies of channel `n` when it enters a state (R74). -/
def State.talliesOnEntry (s : State) (n : Chan) (st : ChState) : Tallies :=
  (s.scanner.tallies.get n).onChange
    (sampleCounts (s.channels.get n).state (s.channels.get n).blanking)
    (sampleCounts st (blankingFor st (s.prof n)))

/-- A change of channel `n` to another state with all its effects but the notice: the drive order, the timers, the tallies,
the warnings and the ramp-entry marks. -/
def State.move (s : State) (n : Chan) (st : ChState) : State :=
  { s with
    channels := s.channels.set n ((s.channels.get n).enter st (s.prof n))
    drive := s.drive.set n ((s.drive.get n).orderFor st (s.prof n).park)
    scanner := { s.scanner with tallies := s.scanner.tallies.set n (s.talliesOnEntry n st) }
    seq := s.seqOnEntry n st
    log := s.logOnEntry n st }

/-- R2: a transition to a state other than QUALIFYING: its effects, then its CHANNEL notice. -/
def State.transition (s : State) (n : Chan) (st : ChState) (cause : Cause) : State :=
  (s.move n st).post (.channel n (s.channels.get n).state st cause none)

/-- The wait-reason set of channel `n` replaced. -/
def State.setWait (s : State) (n : Chan) (w : WaitSet) : State := s.setChan n { s.channels.get n with wait := w }

/-- R7: the entry into QUALIFYING: the set is evaluated, the notice carries it, and an empty set leads on to RAMPING. -/
def State.enterQualifying (s : State) (n : Chan) (cause : Cause) : State :=
  let moved := (s.move n .qualifying).setWait n (s.waitReasons n)
  let told := moved.post (.channel n (s.channels.get n).state .qualifying cause (some (s.waitReasons n)))
  if (s.waitReasons n).isEmpty then told.transition n .ramping .ready else told

/-- R8: a channel in QUALIFYING evaluates its set again; a channel in another state does nothing. -/
def State.reevaluate (s : State) (n : Chan) (cause : Cause) : State :=
  if (s.channels.get n).state = .qualifying then
    if (s.waitReasons n).isEmpty then s.transition n .ramping cause else s.setWait n (s.waitReasons n)
  else s

/-- An effect on each channel in ascending order. -/
def forEachChan (f : State → Chan → State) (s : State) : State := f (f (f (f s 0) 1) 2) 3

/-- To HELD when hold is effective, otherwise to QUALIFYING (R14, R17, R30). -/
def State.startWanted (s : State) (n : Chan) (cause : Cause) : State :=
  if s.holdEffective n then s.transition n .held cause else s.enterQualifying n cause

/-- The retry count of channel `n` replaced. -/
def State.setRetryCount (s : State) (n : Chan) (k : Nat) : State := s.setChan n { s.channels.get n with retryCount := k }

/-! ## Hold (R4, R5) -/

/-- R4: hold becomes effective. -/
def State.holdBecomesEffective (s : State) (n : Chan) : State :=
  match (s.channels.get n).state with
  | .disabled => s
  | .qualifying | .ramping | .active | .tripped => s.transition n .held .hold
  | .windingDown => s.transition n .disabled .hold
  | .locked => if (s.prof n).holdClearsLock then (s.setRetryCount n 0).transition n .held .hold else s
  | .held => s

/-- R5: hold ceases. -/
def State.holdCeases (s : State) (n : Chan) : State :=
  if (s.channels.get n).state = .held then s.enterQualifying n .release else s

/-- R3: the channel acts on a change of effectiveness from `before` to what now stands. -/
def State.holdChanged (s : State) (n : Chan) (before : Bool) : State :=
  if !before && s.holdEffective n then s.holdBecomesEffective n
  else if before && !s.holdEffective n then s.holdCeases n
  else s

/-! ## Trips (R19 to R24) and the Fault Log (R145, R146) -/

/-- R146: the snapshot of a record of channel `n`, present when all three marks are set. -/
def State.snapshot (s : State) (n : Chan) : Option (PerChanPoint Int) :=
  let m := s.log.marks.get n
  let r := s.seq.records.chans.get n
  if m.cur && m.fwd && m.ref then some ⟨r.cur.smoothed, r.fwd.smoothed, r.ref.smoothed⟩ else none

/-- R145: the log after an append: a full log gives up its oldest record. -/
def FaultLog.append (l : FaultLog) (r : FaultRecord) : FaultLog :=
  { l with
    records := (if l.records.length ≥ Config.logCapacity then l.records.tail else l.records) ++ [r]
    next := l.next + 1 }

/-- The retry count after an action (R22, R144). -/
def countAfter (a : Action) (count : Nat) : Nat := if a = .retry then count + 1 else count

/-- R144, R147: the record of a trip of channel `n`, composed before the action is carried out. -/
def State.tripRecord (s : State) (n : Chan) (kind : TripKind) (a : Action) : FaultRecord where
  number := s.log.next
  uptime := s.startup.uptime
  channel := n
  kind := kind
  stateAtTrip := (s.channels.get n).state
  action := a
  retryCount := countAfter a (s.channels.get n).retryCount
  output := (s.drive.get n).output
  target := s.targets.get n
  temperature := s.seq.records.temp.smoothed
  band := s.seq.band
  generation := s.store.active.generation
  snapshot := s.snapshot n

/-- R22 to R24: the state an action leads to; REPORT keeps the state (R21). -/
def Action.leadsTo : Action → Option ChState
  | .retry => some .tripped
  | .lock => some .locked
  | .stop => some .disabled
  | .report => none

/-- R19 step 7: the cause of the CHANNEL notice. -/
def tripCause (kind : TripKind) : Cause := if kind = .ot then .thermal else .trip

/-- R19: the action a confirmed trip of channel `n` chooses. -/
def State.tripAction (s : State) (n : Chan) (kind : TripKind) : Action :=
  chooseAction (s.channels.get n).state ((s.prof n).policy kind) (s.channels.get n).retryCount (s.prof n).retryBudget

/-- R19 steps 2 and 3, with the retry count of step 4: the record, the last trip number and the count. -/
def State.recordTrip (s : State) (n : Chan) (kind : TripKind) (a : Action) : State :=
  let c := s.channels.get n
  let charged : Channel := { c with lastTrip := some s.log.next, retryCount := countAfter a c.retryCount }
  (s.setChan n charged).withLog (s.log.append (s.tripRecord n kind a))

/-- R19: a confirmed trip reaches channel `n`; outside RAMPING, ACTIVE and WINDING_DOWN it is discarded. -/
def State.takeTrip (s : State) (n : Chan) (kind : TripKind) : State :=
  if (s.channels.get n).state.takesTrips then
    let a := s.tripAction n kind
    let recorded := s.recordTrip n kind a
    match a.leadsTo with
    | none => recorded.post (.trip s.log.next n kind a)
    | some st =>
        ((recorded.move n st).post (.trip s.log.next n kind a)).post
          (.channel n (s.channels.get n).state st (tripCause kind) none)
  else s

/-- R28, R95: the over-temperature condition having become set confirms an OT trip to every channel that then takes trips,
ascending. They are taken in the same event (log 16). -/
def State.confirmOverTemp (s : State) : State := forEachChan (fun s n => s.takeTrip n .ot) s

/-! ## Supply (R27) -/

/-- R27: what the supply status becoming NOT_OK does to a running channel; others are left. -/
def State.supplyLost (s : State) (n : Chan) : State :=
  match (s.channels.get n).state with
  | .ramping | .active => s.enterQualifying n .supply
  | .windingDown => s.transition n .disabled .supply
  | .disabled | .qualifying | .held | .tripped | .locked => s

/-- R88 SUPPLY step 3, R27: a change of the supply status reaches channel `n`. -/
def State.supplyChanged (s : State) (n : Chan) : State :=
  if (s.channels.get n).state = .qualifying then s.reevaluate n .ready
  else if s.seq.supplyOk then s else s.supplyLost n

/-- R92: the SUPPLY notice of a change of status. -/
def State.postSupply (s : State) : State :=
  s.post (.supply s.seq.supplyOk s.seq.records.supply.smoothed s.seq.band)

/-! ## Profile replacement (R121 steps 2 to 9, R29, R61, R77, R78, R96, R97) -/

/-- R29, R121 step 2: the retry count of each channel is lowered to the budget of the active profile. -/
def State.lowerRetryCounts (s : State) : State :=
  let lowered := fun n =>
    { s.channels.get n with retryCount := min (s.channels.get n).retryCount (s.prof n).retryBudget }
  { s with channels := Quad.ofFn lowered }

/-- R61: a parked output takes the new park code at once; other modes keep their output. -/
def DriveStage.newPark (d : DriveStage) (park : Nat) : DriveStage :=
  match d.mode with
  | .parked => { d with output := park }
  | .track | .wind | .undriven => d

/-- R121 step 3: each Drive Stage takes its share. -/
def State.newParks (s : State) : State :=
  { s with drive := Quad.ofFn fun n => (s.drive.get n).newPark (s.prof n).park }

/-- R77: a point's tally is cleared by a replacement: threshold or confirm count differ, or the point is in no slot. -/
def tallyCleared (was now : TripSetting) (listed : Bool) : Bool :=
  decide (was.threshold ≠ now.threshold) || decide (was.confirm ≠ now.confirm) || !listed

/-- R78: an LF point's re-arm flag is armed by a replacement: as R77, or the policy differs. -/
def rearmed (was now : TripSetting) (listed : Bool) : Bool := tallyCleared was now listed || decide (was.policy ≠ now.policy)

/-- R77, R78: a channel's tallies after a replacement. -/
def Tallies.replaced (t : Tallies) (was now : ChannelProfile) (listed : FastKind → Bool) : Tallies where
  oc := if tallyCleared was.oc now.oc (listed .oc) then 0 else t.oc
  hr := if tallyCleared was.hr now.hr (listed .hr) then 0 else t.hr
  lf := if tallyCleared was.lf now.lf (listed .lf) then 0 else t.lf
  armed := if rearmed was.lf now.lf (listed .lf) then true else t.armed

/-- R77, R78, R121 step 4: the scanner restarts its pass at slot 0. -/
def State.scannerReplaced (s : State) (was : Profile) : State :=
  s.withScanner { s.scanner with
    position := 0
    tallies := Quad.ofFn fun n => (s.scanner.tallies.get n).replaced (was.channels.get n) (s.prof n)
      fun k => s.store.active.scanList.contains (pointNumber n k) }

/-- R96, R86, R121 step 5: band, status and condition without hysteresis history, and the rotation mode. -/
def State.seqReplaced (s : State) : State :=
  let p := s.store.active.supply
  let r := s.seq.records
  let ok := freshSupplyOk r.supply.valid p r.supply.smoothed
  s.withSeq { s.seq with
    band := freshBand r.supply.valid p r.supply.smoothed
    supplyOk := ok
    overTemp := freshOverTemp r.temp.valid p r.temp.smoothed
    mode := if s.seq.supplyOk && !ok then .restricted else s.seq.mode }

/-- R97, R121 step 7: a changed supply status is told and acts on running channels. -/
def State.supplyReplaced (s : State) (was : Bool) : State :=
  if s.seq.supplyOk = was then s
  else if s.seq.supplyOk then s.postSupply
  else forEachChan State.supplyLost s.postSupply

/-- R97, R121 step 8: a condition that became set trips the channels then running up, active or winding down. -/
def State.overTempReplaced (s : State) (was : Bool) : State :=
  if s.seq.overTemp && !was then s.confirmOverTemp else s

/-- R121 steps 2 to 6, for an active profile just installed in place of `was`. -/
def State.takeProfile (s : State) (was : Profile) : State :=
  ((s.lowerRetryCounts.newParks.scannerReplaced was).seqReplaced).recomputeTargets

/-- R121 steps 2 to 9, R125: the effects of installing `p` in place of the active profile. -/
def State.install (s : State) (p : Profile) : State :=
  let taken := (s.withStore { s.store with active := p }).takeProfile s.store.active
  forEachChan (fun s n => s.reevaluate n .commit)
    ((taken.supplyReplaced s.seq.supplyOk).overTempReplaced s.seq.overTemp)

/-! ## Persistence (R130) -/

/-- R130: a persistence operation of the active profile starts: the target slot is marked invalid. -/
def NvStore.startPersist (v : NvStore) (active : Profile) : NvStore :=
  let t := slotToWrite v.statusA v.statusB
  { (v.setStatus t invalidSlot).setPages t { v.pages t with completionMark := false } with
    op := some ⟨t, active, 1, .running Config.pageWriteLeast⟩
    pagesWritten := 0 }

/-- R130 in the part's state. -/
def State.startPersist (s : State) : State := s.withNv (s.nv.startPersist s.store.active)

/-! ## The edit session (R118) -/

/-- R118: an open edit is closed without a notice. -/
def State.dropEdit (s : State) : State := s.withStore { s.store with staged := none, idle := .stopped }

/-- R118: an open edit is closed with an EDIT_CLOSED notice; with no edit open nothing happens. -/
def State.closeEdit (s : State) (cause : EditCause) : State :=
  if s.store.staged.isSome then s.dropEdit.post (.editClosed cause) else s

/-! ## Full reset (R188) -/

/-- R188: the beginning of a full reset. Every block takes the values its chapter gives; the slot pages (R126) and the pins
stay, and the straps are sampled (R167). The queue of waiting commands is the environment's and stays. -/
def State.fullReset (s : State) (cause : ResetCause) : State where
  channels := Quad.const channelAtReset
  targets := Quad.const 0
  drive := Quad.const driveAtReset
  scanner := scannerAtReset
  seq := sequencerAtReset
  store := storeAtReset
  nv := nvAtReset s.nv.pagesA s.nv.pagesB
  log := logAtReset
  link := linkAtReset (lineRate s.pins)
  notices := noticesAtReset
  startup := startUpAtReset cause
  pins := s.pins
  pending := s.pending

/-- R188, R171: RESET_HELD ends: uptime 0, phase RECALLING, and the low-line timer starts if RXD is low. -/
def State.endResetHeld (s : State) : State :=
  (s.withStartup { s.startup with phase := .recalling, uptime := 0 }).withLink
    { s.link with lowLine := if s.pins.rxdLow then .running Config.lowLinePeriod else .stopped }

/-- R188, R191: a full reset with cause REQUEST finds the supply good and RESET deasserted and ends RESET_HELD at once. -/
def State.requestReset (s : State) : State := (s.fullReset .request).endResetHeld

end Sys2Proof.Machine
end

