-- ==== Sys2Proof/Machine/Log.lean ====
section
/-! DEFINITION. What READ_LOG and CLEAR_LOG do when they are executed (chapter 8). -/

namespace Sys2Proof.Machine

/-- R149: the records from the one bearing `number` on; none where no record bears it. -/
def recordsFrom (number : BitVec 16) : List FaultRecord → Option (List FaultRecord)
  | [] => none
  | r :: rest => if r.number = number then some (r :: rest) else recordsFrom number rest

/-- R149, R150: the records taken: at most `count`, and only while the reply still fits. -/
def takeFitting (count room : Nat) : List FaultRecord → List FaultRecord
  | [] => []
  | r :: rest =>
      match count with
      | 0 => []
      | k + 1 => if r.bytes.length ≤ room then r :: takeFitting k (room - r.bytes.length) rest else []

/-- R149: where the reply starts, and whether the start moved. -/
def startOfRead (number : BitVec 16) (records : List FaultRecord) : List FaultRecord × Bool :=
  match recordsFrom number records with
  | some rest => (rest, false)
  | none => (records, true)

/-- R150: the room for records beside the 9 fixed bytes of a payload of 117. -/
def recordRoom : Nat := Config.maxPayload - 9

/-- R150: the fields of the READ_LOG reply. -/
def readLogFields (l : FaultLog) (number : BitVec 16) (count : Nat) : List Byte :=
  let start := startOfRead number l.records
  let taken := takeFitting count recordRoom start.1
  [boolByte start.2] ++ optField (l.records.head?.map fun r => le16 r.number.toNat)
    ++ optField (l.records.getLast?.map fun r => le16 r.number.toNat)
    ++ [byteOf taken.length] ++ taken.flatMap FaultRecord.bytes

/-- R149: READ_LOG changes no state. -/
def serveReadLog (payload : List Byte) (s : State) : State × Answer :=
  match payload with
  | [n0, n1, count] =>
      match natIn 1 4 count.toNat with
      | none => (s, .only .range)
      | some k => (s, .okWith (readLogFields s.log (BitVec.ofNat 16 (u16 n0 n1)) k))
  | _ => (s, .only .length)

/-- R151: CLEAR_LOG. -/
def serveClearLog (s : State) : State × Answer :=
  (s.withLog { s.log with records := [] }, .okWith [byteOf s.log.records.length])

end Sys2Proof.Machine
end

