-- ==== Sys2Proof/Machine/Measure.lean ====
section
/-! DEFINITION. What READ_POINTS does when it is executed, and the completion of a conversion (chapter 5). -/

namespace Sys2Proof.Machine

/-! ## READ_POINTS -/

/-- R82, R99: the points a point mask names, in index order. -/
def namedPoints (mask : BitVec 16) : List Point := allPoints.filter fun p => mask.getLsbD p.index

/-- R100: the fields of the READ_POINTS reply. -/
def readPointsFields (s : State) (m0 m1 : Byte) : List Byte :=
  [m0, m1, boolByte s.seq.supplyOk, byteOf s.seq.band.val, boolByte s.seq.overTemp, byteOf s.seq.mode.code]
    ++ (namedPoints (m1 ++ m0)).flatMap fun p => (s.seq.records.get p).bytes p

/-- R99, R100: READ_POINTS changes no state. -/
def serveReadPoints (payload : List Byte) (s : State) : State × Answer :=
  match payload with
  | [m0, m1] =>
      if u16 m0 m1 = 0 ∨ u16 m0 m1 > 16383 ∨ (namedPoints (m1 ++ m0)).length > 8 then (s, .only .range)
      else (s, .okWith (readPointsFields s m0 m1))
  | _ => (s, .only .length)

/-! ## A completion -/

/-- R87: the record of a point after a completion. -/
def PointRecord.complete (r : PointRecord) (v : Int) (depth : Nat) (now : W32) : PointRecord :=
  { r with raw := v, smoothed := smooth r.valid r.smoothed v depth, valid := true, uptime := now }

/-- The record of a point replaced. -/
def State.setRecord (s : State) (p : Point) (r : PointRecord) : State :=
  s.withSeq { s.seq with records := s.seq.records.set p r }

/-- R87, R143: a completion of a channel point sets its snapshot mark. -/
def FaultLog.markPoint (l : FaultLog) : Point → FaultLog
  | .temp | .supply => l
  | .chan n k => { l with marks := l.marks.set n ((l.marks.get n).set k true) }

/-- R87: the record of point `p` takes the delivered value `v`. -/
def State.takeResult (s : State) (p : Point) (v : Int) : State :=
  (s.setRecord p ((s.seq.records.get p).complete v (s.store.active.windows.get p).depth s.startup.uptime)).withLog
    (s.log.markPoint p)

/-- R89, R90: the warning state of point `p` is evaluated; a change posts a WARNING notice. -/
def State.evaluateWarning (s : State) (p : Point) : State :=
  let r := s.seq.records.get p
  let w := nextWarning r.warning (s.store.active.windows.get p) r.smoothed
  if w = r.warning then s else (s.setRecord p { r with warning := w }).post (.warning p w r.smoothed)

/-- R95: the over-temperature condition is evaluated from the smoothed temperature. -/
def State.evaluateOverTemp (s : State) : State :=
  s.withSeq { s.seq with
    overTemp := nextOverTemp s.seq.overTemp s.store.active.supply s.seq.records.temp.smoothed }

/-- R88, TEMP, steps 1 to 5. `wasValid` is the temperature validity before the completion. -/
def State.tempSteps (s : State) (wasValid : Bool) : State :=
  let judged := ((s.evaluateWarning .temp).recomputeTargets).evaluateOverTemp
  let tripped := if judged.seq.overTemp && !s.seq.overTemp then judged.confirmOverTemp else judged
  if !wasValid || judged.seq.overTemp != s.seq.overTemp then
    forEachChan (fun s n => s.reevaluate n .ready) tripped
  else tripped

/-- R93, R42: the band is evaluated; a change recomputes the targets. -/
def State.evaluateBand (s : State) : State :=
  let b := nextBand s.seq.band s.store.active.supply s.seq.records.supply.smoothed
  if b = s.seq.band then s else (s.withSeq { s.seq with band := b }).recomputeTargets

/-- R92, R88 SUPPLY step 3: the status is evaluated; a change is told and handed to the channels, ascending. -/
def State.evaluateSupply (s : State) : State :=
  let ok := nextSupplyOk s.seq.supplyOk s.store.active.supply s.seq.records.supply.smoothed
  if ok = s.seq.supplyOk then s
  else forEachChan State.supplyChanged (s.withSeq { s.seq with supplyOk := ok }).postSupply

/-- R88, SUPPLY, steps 1 to 3. -/
def State.supplySteps (s : State) : State := ((s.evaluateWarning .supply).evaluateBand).evaluateSupply

/-- R88, a channel point: its warning state is evaluated only while the channel is ACTIVE. -/
def State.chanPointSteps (s : State) (n : Chan) (k : ChanPoint) : State :=
  if (s.channels.get n).state = .active then s.evaluateWarning (.chan n k) else s

/-- R88: the steps after the record update, by kind of point. -/
def State.completionSteps (s : State) (p : Point) (wasValid : Bool) : State :=
  match p with
  | .temp => s.tempSteps wasValid
  | .supply => s.supplySteps
  | .chan n k => s.chanPointSteps n k

/-- R85: the point of the next index; TEMP after REF3. -/
def nextIndex (p : Point) : Point :=
  match allPoints[p.index + 1]? with
  | some q => q
  | none => .temp

/-- R85: the next point and the rotation mode afterwards. -/
def nextPoint (p : Point) (supplyOk : Bool) (mode : Rotation) : Point × Rotation :=
  match p with
  | .temp => (.supply, mode)
  | .supply => if supplyOk then (.chan 0 .cur, .full) else (.temp, .restricted)
  | .chan _ _ =>
      match mode with
      | .full => (nextIndex p, .full)
      | .restricted => (.temp, .restricted)

/-- R84, R85: the next point's conversion begins and the timer starts again. -/
def State.beginNext (s : State) (p : Point) : State :=
  s.withSeq { s.seq with
    point := (nextPoint p s.seq.supplyOk s.seq.mode).1
    mode := (nextPoint p s.seq.supplyOk s.seq.mode).2
    timer := .running Config.conversionPeriod }

/-- R84, R87, R88: the conversion in flight completes with a value from the front end. -/
def State.conversionCompletes (s : State) (v : Int) : State :=
  let p := s.seq.point
  ((s.takeResult p (p.deliver v)).completionSteps p (s.seq.records.get p).valid).beginNext p

end Sys2Proof.Machine
end

