-- ==== Sys2Proof/Machine/Notices.lean ====
section
/-! DEFINITION. What SET_NOTICE_MASK and ACK_NOTICES do when they are executed, and the expiry of the acknowledgement timer
(chapter 9). -/

namespace Sys2Proof.Machine

/-- R158: the START term of the kind mask. -/
def startTerm : BitVec 7 := 1

/-- R158: SET_NOTICE_MASK. -/
def serveSetNoticeMask (payload : List Byte) (s : State) : State × Answer :=
  match payload with
  | [m] =>
      if m.toNat > 127 then (s, .only .range)
      else
        let mask := m.setWidth 7 ||| startTerm
        (s.withNotices { s.notices with mask := mask }, .okWith [mask.setWidth 8])
  | _ => (s, .only .length)

/-- R161: the notice a number acknowledges: one marked SENT. -/
def isSentAs (seq : Byte) (n : Notice) : Bool := n.sent && decide (n.seq = seq)

/-- R161: the queue after the acknowledged notice and every older one are removed. -/
def dropThrough (seq : Byte) : List Notice → List Notice
  | [] => []
  | n :: rest => if isSentAs seq n then rest else dropThrough seq rest

/-- R160, R161: the acknowledgement timer after notices were removed. -/
def ackTimerFor (queue : List Notice) : Timer := if queue.any (·.sent) then .running Config.ackPeriod else .stopped

/-- R161: ACK_NOTICES. -/
def serveAckNotices (payload : List Byte) (s : State) : State × Answer :=
  match payload with
  | [seq] =>
      if s.notices.queue.any (isSentAs seq) then
        let rest := dropThrough seq s.notices.queue
        (s.withNotices { s.notices with queue := rest, ack := ackTimerFor rest },
          .okWith [byteOf (s.notices.queue.length - rest.length), byteOf rest.length])
      else (s, .only .range)
  | _ => (s, .only .length)

/-- R160: the acknowledgement timer expires: every SENT notice is marked UNSENT, and the timer stays stopped. -/
def State.ackExpires (s : State) : State := s.withNotices s.notices.unsend

end Sys2Proof.Machine
end

