-- ==== Sys2Proof/Machine/Channels.lean ====
section
/-! DEFINITION. What the channel requests do when they are executed, and the channels' own events (chapters 1 and 3). -/

namespace Sys2Proof.Machine

/-! ## Requests -/

/-- R13: the bytes of per-channel results, one for each named channel in ascending order. -/
def resultBytes (results : List ChanResult) : List Byte := results.map fun r => byteOf r.code

/-- R13: one named channel: its work is done on the state that the channels before it left. -/
def nameChan (mask : Byte) (work : State → Chan → State × ChanResult) (acc : State × List ChanResult) (n : Chan) :
    State × List ChanResult :=
  if mask.getLsbD n.val then ((work acc.1 n).1, acc.2 ++ [(work acc.1 n).2]) else acc

/-- R13: the work of a channel-mask request over the named channels in ascending order. -/
def overMask (mask : Byte) (work : State → Chan → State × ChanResult) (s : State) : State × List ChanResult :=
  allChans.foldl (nameChan mask work) (s, [])

/-- R13: the reply of a channel-mask request. -/
def maskAnswer (mask : Byte) (results : List ChanResult) : Answer := .okWith (mask :: resultBytes results)

/-- R13: a channel-mask request with one mask byte. -/
def serveMask (payload : List Byte) (work : State → Chan → State × ChanResult) (s : State) : State × Answer :=
  match payload with
  | [m] =>
      match chanMaskIn m with
      | none => (s, .only .range)
      | some mask => ((overMask mask work s).1, maskAnswer mask (overMask mask work s).2)
  | _ => (s, .only .length)

/-- R14: ENABLE on one channel. -/
def enableChan (s : State) (n : Chan) : State × ChanResult :=
  match (s.channels.get n).state with
  | .disabled => (s.startWanted n .request, .done)
  | .windingDown => (s.transition n .ramping .request, .done)
  | .qualifying | .held | .ramping | .active | .tripped | .locked => (s, .noChange)

/-- R14: ENABLE. -/
def serveEnable (payload : List Byte) (s : State) : State × Answer := serveMask payload enableChan s

/-- R15: DISABLE on one channel. -/
def disableChan (s : State) (n : Chan) : State × ChanResult :=
  match (s.channels.get n).state with
  | .ramping | .active => (s.transition n .windingDown .request, .done)
  | .qualifying | .held | .tripped | .locked => (s.transition n .disabled .request, .done)
  | .windingDown | .disabled => (s, .noChange)

/-- R15: DISABLE. -/
def serveDisable (payload : List Byte) (s : State) : State × Answer := serveMask payload disableChan s

/-- R17: CLEAR on one channel. -/
def clearChan (s : State) (n : Chan) : State × ChanResult :=
  match (s.channels.get n).state with
  | .locked => ((s.setRetryCount n 0).startWanted n .request, .done)
  | .tripped => (s.enterQualifying n .request, .done)
  | .disabled | .qualifying | .held | .ramping | .active | .windingDown => (s, .notApplicable)

/-- R17: CLEAR. -/
def serveClear (payload : List Byte) (s : State) : State × Answer := serveMask payload clearChan s

/-- The soft hold of channel `n` replaced. -/
def State.setSoftHold (s : State) (n : Chan) (on : Bool) : State := s.setChan n { s.channels.get n with softHold := on }

/-- R18: SOFT_HOLD on one channel. -/
def softHoldChan (on : Bool) (s : State) (n : Chan) : State × ChanResult :=
  if (s.channels.get n).softHold = on then (s, .noChange)
  else ((s.setSoftHold n on).holdChanged n (s.holdEffective n), .done)

/-- R18: SOFT_HOLD. -/
def serveSoftHold (payload : List Byte) (s : State) : State × Answer :=
  match payload with
  | [m, setting] =>
      match chanMaskIn m, flagIn setting with
      | some mask, some on => ((overMask mask (softHoldChan on) s).1, maskAnswer mask (overMask mask (softHoldChan on) s).2)
      | _, _ => (s, .only .range)
  | _ => (s, .only .length)

/-- R32, section 10.11: the fields of the CHANNEL_STATUS reply. -/
def statusFields (s : State) (n : Chan) : List Byte :=
  let c := s.channels.get n
  [byteOf n.val, byteOf c.state.code, byteOf c.wait.mask, boolByte (s.pins.hold.get n), boolByte c.softHold]
    ++ le16 (s.drive.get n).output ++ le16 (s.targets.get n)
    ++ [byteOf c.retryCount, byteOf c.blanking.remaining] ++ le16 c.retry.remaining
    ++ le32 (BitVec.ofNat 32 c.stable.remaining) ++ optField (c.lastTrip.map fun t => le16 t.toNat)

/-- R32: CHANNEL_STATUS changes no state. -/
def serveChannelStatus (payload : List Byte) (s : State) : State × Answer :=
  match payload with
  | [ch] =>
      match chanIn ch with
      | none => (s, .only .range)
      | some n => (s, .okWith (statusFields s n))
  | _ => (s, .only .length)

/-! ## Events -/

/-- R3: a HOLD pin takes a level. Before the end of recall the level is only noted (R1, R189). -/
def State.holdPinTaken (s : State) (n : Chan) (asserted : Bool) : State :=
  let noted := s.withPins { s.pins with hold := s.pins.hold.set n asserted }
  if s.startup.phase = .running then noted.holdChanged n (s.holdEffective n) else noted

/-- R10: blanking expires in RAMPING; an output at its target settles the channel. -/
def State.blankingExpires (s : State) (n : Chan) : State :=
  let marked := s.setChan n { s.channels.get n with blanking := .expired }
  if (s.drive.get n).output = s.targets.get n then marked.transition n .active .settled else marked

/-- R12: the stable timer expires: the retry count is 0 and the timer stays stopped. -/
def State.stableExpires (s : State) (n : Chan) : State :=
  s.setChan n { s.channels.get n with retryCount := 0, stable := .stopped }

/-- R25: the retry timer expires. -/
def State.retryExpires (s : State) (n : Chan) : State := s.enterQualifying n .retryDue

/-- R56, R57: an output moves toward its goal by the slew or the distance, whichever is smaller. -/
def stepToward (output goal slew : Nat) : Nat :=
  if output < goal then output + min slew (goal - output) else output - min slew (output - goal)

/-- R11: the report of a tick in TRACK settles a RAMPING channel whose blanking has expired. -/
def State.trackReport (s : State) (n : Chan) : State :=
  if (s.drive.get n).output = s.targets.get n ∧ (s.channels.get n).state = .ramping
      ∧ (s.channels.get n).blanking = .expired then s.transition n .active .settled
  else s

/-- R55, R56: a tick in TRACK. -/
def State.trackTick (s : State) (n : Chan) : State :=
  let d := s.drive.get n
  (s.setDrive n ⟨stepToward d.output (s.targets.get n) (s.prof n).slew, .track, .running Config.tickPeriod⟩).trackReport n

/-- R16, R57: arrival at park: the Drive Stage is PARKED, its tick timer stopped, and a winding-down channel DISABLED. -/
def State.arriveParked (s : State) (n : Chan) : State :=
  let parked := s.setDrive n ⟨(s.prof n).park, .parked, .stopped⟩
  if (s.channels.get n).state = .windingDown then parked.transition n .disabled .parked else parked

/-- R55, R57: a tick in WIND. -/
def State.windTick (s : State) (n : Chan) : State :=
  let d := s.drive.get n
  let moved := stepToward d.output (s.prof n).park (s.prof n).slew
  if moved = (s.prof n).park then s.arriveParked n
  else s.setDrive n ⟨moved, .wind, .running Config.tickPeriod⟩

/-- R53, R55: a ramp tick, by mode. -/
def State.rampTick (s : State) (n : Chan) : State :=
  match (s.drive.get n).mode with
  | .track => s.trackTick n
  | .wind => s.windTick n
  | .parked | .undriven => s

/-- R73: whether a confirmation of a kind is pending. -/
def PendingTrips.has (p : PendingTrips) : TripKind → Bool
  | .oc => p.oc
  | .hr => p.hr
  | .lf => p.lf
  | .ot => p.ot

/-- R73: a confirmation of a kind is pending, or not. A second of the same kind merges with the first. -/
def PendingTrips.put (p : PendingTrips) (k : TripKind) (v : Bool) : PendingTrips :=
  match k with
  | .oc => { p with oc := v }
  | .hr => { p with hr := v }
  | .lf => { p with lf := v }
  | .ot => { p with ot := v }

/-- R73: a confirmation of kind `k` becomes pending for channel `n`, or is pending no longer. -/
def State.setPendingTrip (s : State) (n : Chan) (k : TripKind) (v : Bool) : State :=
  s.setChan n { s.channels.get n with confirmations := (s.channels.get n).confirmations.put k v }

/-- R73, R19: channel `n` takes its pending confirmation of kind `k`. -/
def State.takeConfirmation (s : State) (n : Chan) (k : TripKind) : State :=
  (s.setPendingTrip n k false).takeTrip n k

end Sys2Proof.Machine
end

