-- ==== Sys2Proof/Machine/Scan.lean ====
section
/-! DEFINITION. What READ_SCAN does when it is executed, and the scan step (chapter 4). -/

namespace Sys2Proof.Machine

/-- R80: the fields of the READ_SCAN reply. -/
def readScanFields (s : State) : List Byte :=
  let l := s.store.active.scanList
  let t := s.scanner.tallies.toList
  [byteOf l.length] ++ l.map (fun x => byteOf x.val)
    ++ t.flatMap (fun x => [byteOf x.oc, byteOf x.hr, byteOf x.lf]) ++ t.map (fun x => boolByte x.armed)

/-- R80: READ_SCAN changes no state. -/
def serveReadScan (s : State) : State × Answer := (s, .okWith (readScanFields s))

/-- R67: the tally of a point of a channel. -/
def Tallies.get (t : Tallies) : FastKind → Nat
  | .oc => t.oc
  | .hr => t.hr
  | .lf => t.lf

/-- The tally of a point of a channel replaced. -/
def Tallies.set (t : Tallies) (k : FastKind) (v : Nat) : Tallies :=
  match k with
  | .oc => { t with oc := v }
  | .hr => { t with hr := v }
  | .lf => { t with lf := v }

/-- R70: a discarded sample: tally 0, and for an LF point the flag armed. -/
def Tallies.discard (t : Tallies) (k : FastKind) : Tallies :=
  if k = .lf then { t.set k 0 with armed := true } else t.set k 0

/-- R71: a counted sample. -/
def Tallies.count (t : Tallies) (k : FastKind) (isBeyond : Bool) : Tallies :=
  if k = .lf ∧ t.armed = false then { t.set k 0 with armed := !isBeyond }
  else t.set k (if isBeyond then t.get k + 1 else 0)

/-- R72 steps 1 and 2: a confirmation clears the channel's tallies, and the flag of an LF point of policy REPORT. -/
def Tallies.confirmed (t : Tallies) (k : FastKind) (p : Policy) : Tallies :=
  ⟨0, 0, 0, if k = .lf ∧ p = .report then false else t.armed⟩

/-- R71: a counted sample reaches the confirm count. -/
def Tallies.confirms (t : Tallies) (k : FastKind) (isBeyond : Bool) (confirm : Nat) : Bool :=
  isBeyond && !(decide (k = .lf) && !t.armed) && decide (t.get k + 1 = confirm)

/-- The tallies of channel `n` replaced. -/
def Scanner.setTallies (x : Scanner) (n : Chan) (t : Tallies) : Scanner := { x with tallies := x.tallies.set n t }

/-- R69 to R72: the sample of point `p` is judged and counted. -/
def State.sample (s : State) (p : PointNumber) (sense : BitVec 10) : State :=
  let n := pointChan p
  let k := pointKind p
  let t := s.scanner.tallies.get n
  let setting := (s.prof n).setting k
  let isBeyond := beyond k setting.threshold sense
  if sampleCounts (s.channels.get n).state (s.channels.get n).blanking k then
    if t.confirms k isBeyond setting.confirm then
      (s.withScanner (s.scanner.setTallies n (t.confirmed k setting.policy))).setPendingTrip n k.trip true
    else s.withScanner (s.scanner.setTallies n (t.count k isBeyond))
  else s.withScanner (s.scanner.setTallies n (t.discard k))

/-- R68 step 4: the position advances, and returns to slot 0 from the last slot. -/
def nextSlot (position length : Nat) : Nat := if position + 1 < length then position + 1 else 0

/-- R68: a scan step while scanning runs. A position outside the list does not occur (R67). -/
def State.scanStep (s : State) (sense : BitVec 10) : State :=
  match s.store.active.scanList[s.scanner.position]? with
  | none => s
  | some p =>
      let sampled := s.sample p sense
      sampled.withScanner { sampled.scanner with
        position := nextSlot s.scanner.position s.store.active.scanList.length }

end Sys2Proof.Machine
end

