-- ==== Sys2Proof/Machine/Session.lean ====
section
/-! DEFINITION. What HELLO, BYE, IDENTIFY, SET_LEVEL and RESET_PART do when they are executed (chapters 11 and 12), and the
expiry of the lockout timer. -/

namespace Sys2Proof.Machine

/-- R162 in the part's state. -/
def State.unsendNotices (s : State) : State := s.withNotices s.notices.unsend

/-- R181 step 4: the fields of the HELLO reply. -/
def helloFields (s : State) : List Byte :=
  byteOf Config.variantText.length :: Config.variantText ++ le32 s.store.active.generation
    ++ optField (s.notices.queue.head?.map fun n => [n.seq]) ++ [s.notices.nextSeq]

/-- R181 step 1: the reply cache is emptied. -/
def State.emptyCache (s : State) : State := s.withLink { s.link with cache := none }

/-- The session and level set. -/
def State.setSession (s : State) (opened : Bool) (level : Level) : State :=
  s.withLink { s.link with opened := opened, level := level }

/-- R181 steps 1 to 3: the state HELLO leaves. -/
def State.hello (s : State) : State :=
  if s.link.opened then ((s.emptyCache.closeEdit .level).unsendNotices).setSession true .observe
  else s.emptyCache.setSession true .observe

/-- R181: HELLO. -/
def serveHello (s : State) : State × Answer := (s.hello, .okWith (helloFields s.hello))

/-- R182: BYE. -/
def serveBye (s : State) : State × Answer :=
  (((s.closeEdit .bye).unsendNotices).setSession false .observe, .only .ok)

/-- R183: the fixed fields of the IDENTIFY reply. -/
def identifyFields : List Byte :=
  byteOf Config.familyText.length :: Config.familyText ++ byteOf Config.variantText.length :: Config.variantText
    ++ [byteOf Config.siliconRevision, byteOf Config.imageFormat, byteOf 4, byteOf Config.maxBreakpoints,
        byteOf Config.maxScanSlots, byteOf Config.logCapacity, byteOf Config.noticeCapacity]

/-- R183: IDENTIFY changes no state. -/
def serveIdentify (s : State) : State × Answer := (s, .okWith identifyFields)

/-- R185: a granted level; below CALIBRATE an open edit is closed. -/
def State.grantLevel (s : State) (l : Level) : State :=
  let granted := s.withLink { s.link with level := l }
  if l = .calibrate then granted else granted.closeEdit .level

/-- R185: the reply of a granted SET_LEVEL. -/
def grantAnswer (l : Level) : Answer := .okWith [byteOf l.code]

/-- R186: a right code grants CALIBRATE and clears the failure count. -/
def State.codeRight (s : State) : State := s.withLink { s.link with level := .calibrate, failures := 0 }

/-- R186: a wrong code counts; the third starts the lockout. -/
def State.codeWrong (s : State) : State :=
  s.withLink { s.link with
    failures := s.link.failures + 1
    lockout := if s.link.failures + 1 = Config.lockoutFailures then .running Config.lockoutPeriod else s.link.lockout }

/-- R186: SET_LEVEL naming CALIBRATE from below. -/
def State.judgeCode (s : State) (code : W32) : State × Answer :=
  match s.link.lockout with
  | .running _ => (s, .only .lockout)
  | .stopped =>
      if code = s.store.active.accessCode then (s.codeRight, grantAnswer .calibrate) else (s.codeWrong, .only .denied)

/-- R185: SET_LEVEL. -/
def serveSetLevel (payload : List Byte) (s : State) : State × Answer :=
  match payload with
  | [l, c0, c1, c2, c3] =>
      match levelIn l with
      | none => (s, .only .range)
      | some level =>
          if level.code ≤ s.link.level.code ∨ level = .operate then (s.grantLevel level, grantAnswer level)
          else s.judgeCode (u32 c0 c1 c2 c3)
  | _ => (s, .only .length)

/-- R191: RESET_PART. While a persistence operation is in flight it is answered BUSY; otherwise a reset becomes pending. -/
def serveResetPart (s : State) : State × Answer :=
  if s.nv.op.isSome then (s, .only .busy) else (s.withLink { s.link with resetPending := true }, .only .ok)

/-- R187: the lockout timer expires: the failure count is 0 and the timer stays stopped. -/
def State.lockoutExpires (s : State) : State := s.withLink { s.link with failures := 0, lockout := .stopped }

end Sys2Proof.Machine
end

