-- ==== Sys2Proof/Machine/Edit.lean ====
section
/-! DEFINITION. What EVAL_CURVE and the requests of the edit session do when they are executed (sections 2.8, 6.4 to 6.8). -/

namespace Sys2Proof.Machine

/-- R48, R117: which copy of the profile a request names; `true` is STAGED. -/
def State.namedCopy (s : State) (staged : Bool) : Option Profile := if staged then s.store.staged else some s.store.active

/-- R48, R117: the checks on the named copy: a STAGED copy needs CALIBRATE, then an open edit. -/
def State.withCopy (s : State) (staged : Bool) (answer : Profile → Answer) : Answer :=
  if staged ∧ s.link.level ≠ .calibrate then .only .denied
  else
    match s.namedCopy staged with
    | none => .only .noEdit
    | some p => answer p

/-! ## EVAL_CURVE -/

/-- R48: the fields of EVAL_CURVE in their ranges: channel, copy, temperature, band. -/
def evalCurveIn : List Byte → Option (Chan × Bool × Int × Fin 4)
  | [ch, copy, t0, t1, band] => do
      let n ← chanIn ch
      let staged ← flagIn copy
      let t16 ← intIn (-880) 2400 (i16 t0 t1)
      let b ← chanIn band
      some (n, staged, t16, b)
  | _ => none

/-- R50: the fields of the EVAL_CURVE reply. -/
def evalFields (p : Profile) (n : Chan) (staged : Bool) (t16 : Int) (band : Fin 4) : List Byte :=
  let r := evaluateCurve (p.channels.get n) t16 band
  [byteOf n.val, boolByte staged] ++ le16i t16 ++ [byteOf band.val] ++ le16i r.1 ++ le16 r.2.1 ++ [byteOf r.2.2.code]

/-- R48 to R50: EVAL_CURVE changes no state. -/
def serveEvalCurve (payload : List Byte) (s : State) : State × Answer :=
  match evalCurveIn payload with
  | none => (s, .only .range)
  | some (n, staged, t16, band) => (s, s.withCopy staged fun p => .okWith (evalFields p n staged t16 band))

/-! ## Opening, closing and changing the staged copy -/

/-- R107: OPEN_EDIT. -/
def serveOpenEdit (s : State) : State × Answer :=
  if s.store.staged.isSome then (s, .only .state)
  else
    (s.withStore { s.store with staged := some s.store.active, idle := .running Config.editIdlePeriod },
      .okWith (le32 s.store.active.generation))

/-- R118: ABANDON_EDIT. -/
def serveAbandonEdit (s : State) : State × Answer :=
  if s.store.staged.isSome then (s.dropEdit, .only .ok) else (s, .only .noEdit)

/-- R109: every PUT request: NO_EDIT, then RANGE, then the staged copy takes the fields and the idle timer starts again. -/
def servePut (change : Profile → Option Profile) (s : State) : State × Answer :=
  match s.store.staged with
  | none => (s, .only .noEdit)
  | some p =>
      match change p with
      | none => (s, .only .range)
      | some q => (s.withStore { s.store with staged := some q, idle := .running Config.editIdlePeriod }, .only .ok)

/-- The profile with the channel profile of `n` replaced. -/
def Profile.setChan (p : Profile) (n : Chan) (c : ChannelProfile) : Profile := { p with channels := p.channels.set n c }

/-- The channel profile with the settings of one trip point replaced. -/
def ChannelProfile.setSetting (p : ChannelProfile) (k : FastKind) (t : TripSetting) : ChannelProfile :=
  match k with
  | .oc => { p with oc := t }
  | .hr => { p with hr := t }
  | .lf => { p with lf := t }

/-- R110: PUT_CURVE. -/
def servePutCurve (payload : List Byte) (s : State) : State × Answer :=
  servePut (fun p => (putCurveIn payload).map fun (n, curve) => p.setChan n { p.channels.get n with curve := curve }) s

/-- R111: PUT_CHANNEL. -/
def servePutChannel (payload : List Byte) (s : State) : State × Answer :=
  servePut (fun p => (putChannelIn payload p.channels.get).map fun (n, c) => p.setChan n c) s

/-- R112: PUT_TRIP. -/
def servePutTrip (payload : List Byte) (s : State) : State × Answer :=
  servePut (fun p => (putTripIn payload).map fun (n, k, t) => p.setChan n ((p.channels.get n).setSetting k t)) s

/-- R113: PUT_SCAN_LIST. -/
def servePutScanList (payload : List Byte) (s : State) : State × Answer :=
  servePut (fun p => (putScanListIn payload).map fun l => { p with scanList := l }) s

/-- R114: PUT_WINDOW. -/
def servePutWindow (payload : List Byte) (s : State) : State × Answer :=
  servePut (fun p => (putWindowIn payload).map fun (q, w) => { p with windows := p.windows.set q w }) s

/-- R115: PUT_SUPPLY. -/
def servePutSupply (payload : List Byte) (s : State) : State × Answer :=
  servePut (fun p => (putSupplyIn payload).map fun x => { p with supply := x }) s

/-- A 32-bit field. -/
def wordIn : List Byte → Option W32
  | [b0, b1, b2, b3] => some (u32 b0 b1 b2 b3)
  | _ => none

/-- R116: PUT_ACCESS_CODE. -/
def servePutAccessCode (payload : List Byte) (s : State) : State × Answer :=
  servePut (fun p => (wordIn payload).map fun w => { p with accessCode := w }) s

/-- R116: PUT_LABEL. -/
def servePutLabel (payload : List Byte) (s : State) : State × Answer :=
  servePut (fun p => (wordIn payload).map fun w => { p with label := w }) s

/-- R108: the idle timer expires: the staged profile is discarded and an EDIT_CLOSED notice of cause TIMEOUT posted. -/
def State.editIdleExpires (s : State) : State := s.closeEdit .timeout

/-! ## GET_PROFILE (R117) -/

/-- R117: the fields of a section at an index; none where the section or the index is out of range. -/
def sectionFields (code index : Byte) : Option (Profile → List Byte) :=
  match code.toNat with
  | 0 => (chanIn index).map fun n p =>
      byteOf (p.channels.get n).curve.length :: breakpointBytes (p.channels.get n).curve
  | 1 => (chanIn index).map fun n p => (p.channels.get n).bytes
  | 2 => (chanIn index).map fun n p =>
      (p.channels.get n).oc.bytes ++ (p.channels.get n).hr.bytes ++ (p.channels.get n).lf.bytes
  | 3 => if index = 0 then some fun p => byteOf p.scanList.length :: p.scanList.map (fun x => byteOf x.val) else none
  | 4 => (pointIn index).map fun q p => (p.windows.get q).bytes
  | 5 => if index = 0 then some fun p => p.supply.bytes else none
  | 6 => if index = 0 then some fun p => le32 p.label ++ le32 p.generation else none
  | _ => none

/-- R117: GET_PROFILE changes no state. -/
def serveGetProfile (payload : List Byte) (s : State) : State × Answer :=
  match payload with
  | [code, index, copy] =>
      match sectionFields code index, flagIn copy with
      | some fields, some staged => (s, s.withCopy staged fun p => .okWith (code :: index :: copy :: fields p))
      | _, _ => (s, .only .range)
  | _ => (s, .only .length)

/-! ## COMMIT (R119 to R122) -/

/-- Section 1.1: whether a channel is running now. -/
def State.isRunning (s : State) (n : Chan) : Bool := (s.channels.get n).state.isRunning

/-- R121 steps 1 to 9: the staged copy becomes active with the next generation, and its effects are carried out. -/
def State.commit (s : State) (staged : Profile) : State :=
  s.dropEdit.install { staged with generation := s.store.active.generation + 1 }

/-- R121, R122: a COMMIT whose checks all pass. -/
def State.commitAnswer (s : State) (staged : Profile) (persist : Bool) : State × Answer :=
  let done := s.commit staged
  let generation := le32 (s.store.active.generation + 1)
  if persist then (done.startPersist, ⟨.accepted, generation⟩) else (done, ⟨.ok, generation⟩)

/-- R119 to R122: COMMIT. -/
def serveCommit (payload : List Byte) (s : State) : State × Answer :=
  match payload with
  | [flag] =>
      match flagIn flag, s.store.staged with
      | none, _ => (s, .only .range)
      | some _, none => (s, .only .noEdit)
      | some persist, some staged =>
          if persist ∧ s.nv.op.isSome then (s, .only .busy)
          else if s.store.active.generation = 4294967295 then (s, .only .state)
          else
            match firstFailure staged s.isRunning with
            | some (check, index) => (s, ⟨.invalid, [byteOf check.code, byteOf index]⟩)
            | none => s.commitAnswer staged persist
  | _ => (s, .only .length)

end Sys2Proof.Machine
end

