-- ==== Sys2Proof/Machine/Store.lean ====
section
/-! DEFINITION. What REVERT, PERSIST and STORE_STATUS do when they are executed, the completion of a page write, and recall
(chapters 6 and 7). -/

namespace Sys2Proof.Machine

/-- R124, R125: REVERT. -/
def serveRevert (s : State) : State × Answer :=
  if s.store.staged.isSome then (s, .only .state)
  else if allChans.any s.isRunning then (s, .only .inUse)
  else if s.nv.op.isSome then (s, .only .busy)
  else
    match newestValid s.nv.statusA s.nv.statusB with
    | none => (s, .only .state)
    | some slot =>
        (s.install (s.nv.image slot), .okWith (byteOf slot.code :: le32 (s.nv.image slot).generation))

/-- R138: PERSIST. -/
def servePersist (s : State) : State × Answer :=
  if s.nv.op.isSome then (s, .only .busy)
  else
    (s.startPersist,
      ⟨.accepted, byteOf (slotToWrite s.nv.statusA s.nv.statusB).code :: le32 s.store.active.generation⟩)

/-- R139: the fields of the STORE_STATUS reply. -/
def storeStatusFields (s : State) : List Byte :=
  [boolByte s.nv.statusA.valid] ++ le32 s.nv.statusA.generation
    ++ [boolByte s.nv.statusB.valid] ++ le32 s.nv.statusB.generation
    ++ [boolByte s.nv.op.isSome, byteOf s.nv.pagesWritten]
    ++ optField (s.nv.op.map fun o => le32 o.snapshot.generation) ++ le32 s.store.active.generation

/-- R139: STORE_STATUS changes no state. -/
def serveStoreStatus (s : State) : State × Answer := (s, .okWith (storeStatusFields s))

/-! ## Page writes (R131 to R133) -/

/-- R126, R131: the pages of the target after page `page` of the snapshot has been written and matches. The header page
restores the mark. DESIGN CHOICE (log 13), safe: the content pages stand whole once the eighth has been written, and from the
first page on the old header's check no longer matches, which R126 leaves open, as it gives no check algorithm. -/
def SlotPages.written (p : SlotPages) (page : Nat) (snapshot : Profile) : SlotPages :=
  if page = Config.pageCount then
    { p with generation := snapshot.generation, formatVersion := Config.imageFormat, checkMatches := true,
             completionMark := true }
  else if page + 1 = Config.pageCount then { p with content := snapshot, checkMatches := false }
  else { p with checkMatches := false }

/-- R131: a page that matches before the ninth: the next page's write begins. -/
def NvStore.nextPage (v : NvStore) (o : PersistOp) : NvStore :=
  { v.setPages o.target ((v.pages o.target).written o.page o.snapshot) with
    op := some { o with page := o.page + 1, write := .running Config.pageWriteLeast }
    pagesWritten := v.pagesWritten + 1 }

/-- R132: the ninth page matches: DONE. -/
def NvStore.done (v : NvStore) (o : PersistOp) : NvStore :=
  { (v.setPages o.target ((v.pages o.target).written o.page o.snapshot)).setStatus o.target
      ⟨true, o.snapshot.generation⟩ with
    op := none
    pagesWritten := v.pagesWritten + 1 }

/-- R133: a page whose read-back differs: FAILED. DESIGN CHOICE (log 13), safe: what then stands in the pages does not match
the check, and content, generation and format version stay as they stood before the page. -/
def NvStore.failed (v : NvStore) (o : PersistOp) : NvStore :=
  { (v.setPages o.target { v.pages o.target with checkMatches := false, completionMark := false }).setStatus o.target
      invalidSlot with
    op := none }

/-- R134: an ending with its STORE notice. -/
def State.endPersist (s : State) (v : NvStore) (o : PersistOp) (done : Bool) : State :=
  (s.withNv v).post (.store done o.target o.snapshot.generation)

/-- R131: the page in progress completes and is read back. -/
def State.pageCompletes (s : State) (o : PersistOp) (matched : Bool) : State :=
  if !matched then s.endPersist (s.nv.failed o) o false
  else if o.page < Config.pageCount then s.withNv (s.nv.nextPage o)
  else s.endPersist (s.nv.done o) o true

/-! ## Recall (R127, R140) -/

/-- R127, R140: what recall finds a slot to be. -/
def judgeSlot (p : SlotPages) : SlotStatus := if p.valid then ⟨true, p.generation⟩ else invalidSlot

/-- R140: the store after recall has judged both slots. -/
def NvStore.judged (v : NvStore) : NvStore := { v with statusA := judgeSlot v.pagesA, statusB := judgeSlot v.pagesB }

/-- R140: the recall outcome and the profile it installs. -/
def NvStore.recall (v : NvStore) : RecallOutcome × Profile :=
  match newestValid v.judged.statusA v.judged.statusB with
  | some .a => (.slotA, v.image .a)
  | some .b => (.slotB, v.image .b)
  | none => (.factory, factoryProfile)

end Sys2Proof.Machine
end

