-- ==== Sys2Proof/Machine/Link.lean ====
section
/-! DEFINITION. The Message Link (chapter 10): serving a request, the request queue, the reply cache, the transmitter, the
receiver, and the link reset. -/

namespace Sys2Proof.Machine

/-! ## Serving (R174) -/

/-- R174 step 7: the request is handed to the block that owns it. -/
def ownerServes (r : RequestName) (payload : List Byte) (s : State) : State × Answer :=
  match r with
  | .hello => serveHello s
  | .bye => serveBye s
  | .identify => serveIdentify s
  | .setLevel => serveSetLevel payload s
  | .setNoticeMask => serveSetNoticeMask payload s
  | .ackNotices => serveAckNotices payload s
  | .resetPart => serveResetPart s
  | .enable => serveEnable payload s
  | .disable => serveDisable payload s
  | .clear => serveClear payload s
  | .softHold => serveSoftHold payload s
  | .channelStatus => serveChannelStatus payload s
  | .evalCurve => serveEvalCurve payload s
  | .readScan => serveReadScan s
  | .readPoints => serveReadPoints payload s
  | .openEdit => serveOpenEdit s
  | .abandonEdit => serveAbandonEdit s
  | .putCurve => servePutCurve payload s
  | .putChannel => servePutChannel payload s
  | .putTrip => servePutTrip payload s
  | .putScanList => servePutScanList payload s
  | .putWindow => servePutWindow payload s
  | .putSupply => servePutSupply payload s
  | .putAccessCode => servePutAccessCode payload s
  | .putLabel => servePutLabel payload s
  | .getProfile => serveGetProfile payload s
  | .commit => serveCommit payload s
  | .persist => servePersist s
  | .revert => serveRevert s
  | .storeStatus => serveStoreStatus s
  | .readLog => serveReadLog payload s
  | .clearLog => serveClearLog s

/-- R174 steps 4 to 7, for a request of the index while the part runs. -/
def serveKnown (r : RequestName) (payload : List Byte) (s : State) : State × Answer :=
  if !s.link.opened && !r.servedClosed then (s, .only .noSession)
  else if r.level.code > s.link.level.code then (s, .only .denied)
  else if !r.lengthOk payload then (s, .only .length)
  else ownerServes r payload s

/-- R174 steps 3 to 7. -/
def serveRunning (code : Byte) (payload : List Byte) (s : State) : State × Answer :=
  match requestOfCode code with
  | none => (s, .only .unknown)
  | some r => serveKnown r payload s

/-- R174 step 1, R176: the reply cache answers an entry of its code and tag. -/
def Link.replayFor (l : Link) (code tag : Byte) : Option CachedReply :=
  match l.cache with
  | some c => if c.code = code ∧ c.tag = tag then some c else none
  | none => none

/-- R191: the reply whose frame end begins the full reset: that of an executed RESET_PART. -/
def answerResets (code : Byte) (a : Answer) : Bool :=
  decide (requestOfCode code = some .resetPart) && decide (a.status = .ok)

/-- R174: an EXECUTE entry is judged, in order: the reply cache, recall in progress, then steps 3 to 7. -/
def serveExecute (code tag : Byte) (payload : List Byte) (s : State) : State × Reply :=
  match s.link.replayFor code tag with
  | some c => (s, ⟨code, tag, c.payload, true, false⟩)
  | none =>
      if s.startup.phase ≠ .running then (s, ⟨code, tag, (Answer.only .busy).bytes, false, false⟩)
      else
        ((serveRunning code payload s).1,
          ⟨code, tag, (serveRunning code payload s).2.bytes, true, answerResets code (serveRunning code payload s).2⟩)

/-- R173: serving an OVERRUN entry composes a reply of status OVERRUN; the request is not examined. -/
def overrunReply (code tag : Byte) : Reply := ⟨code, tag, (Answer.only .overrun).bytes, false, false⟩

/-- R173, R174: an entry is served. -/
def serveEntry (e : Entry) (s : State) : State × Reply :=
  match e.mark with
  | .overrun => (s, overrunReply e.code e.tag)
  | .execute => serveExecute e.code e.tag e.payload s

/-- The request queue replaced. -/
def State.withQueue (s : State) (q : List Entry) : State := s.withLink { s.link with queue := q }

/-- R173: the entry at the head is served at the moment it becomes the head; an entry already served is left. -/
def State.serveHead (s : State) : State :=
  match s.link.queue with
  | [] => s
  | e :: rest =>
      if e.reply.isSome then s
      else (serveEntry e s).1.withQueue ({ e with reply := some (serveEntry e s).2 } :: rest)

/-! ## The transmitter (R177) -/

/-- R177: the reply of the entry at the head of the request queue, once it has been served. -/
def Link.readyReply (l : Link) : Option Reply := l.queue.head?.bind (·.reply)

/-- R176: the cache when a reply frame begins. -/
def Link.cacheFor (l : Link) (r : Reply) : Option CachedReply :=
  if r.cached then some ⟨r.code, r.tag, r.payload⟩ else l.cache

/-- R176, R177: a reply frame begins. -/
def State.beginReply (s : State) (r : Reply) : State :=
  s.withLink { s.link with tx := .reply r true, cache := s.link.cacheFor r }

/-- R159: the oldest UNSENT notice is marked SENT. -/
def markFirstUnsent : List Notice → List Notice
  | [] => []
  | n :: rest => if n.sent then n :: markFirstUnsent rest else { n with sent := true } :: rest

/-- R159: the notice offered to the transmitter. -/
def State.offered (s : State) : Option Notice :=
  if s.link.opened ∧ (s.notices.queue.filter (·.sent)).length < Config.noticeWindow then
    s.notices.queue.find? fun n => !n.sent
  else none

/-- R159: a notice frame begins and its notice becomes SENT. -/
def State.beginNotice (s : State) (n : Notice) : State :=
  (s.withNotices { s.notices with queue := markFirstUnsent s.notices.queue }).withLink
    { s.link with tx := .notice { n with sent := true } }

/-- R177: the transmitter's choice, once it is free: a ready reply, else the offered notice, else IDLE. -/
def State.choose (s : State) : State :=
  match s.link.readyReply with
  | some r => s.beginReply r
  | none =>
      match s.offered with
      | some n => s.beginNotice n
      | none => s

/-- R177: the choice made while the transmitter is IDLE, when an event has been carried out in full. -/
def State.settle (s : State) : State := if s.link.tx = .idle then s.choose else s

/-- The transmitter is free. -/
def State.txIdle (s : State) : State := s.withLink { s.link with tx := .idle }

/-- R177: the end of a reply frame: the head entry is removed and the next served, then the transmitter chooses. -/
def State.replyEnds (s : State) (held : Bool) : State :=
  if held then ((s.txIdle.withQueue s.link.queue.tail).serveHead).settle else s.txIdle.settle

/-- R160: the end of a notice frame starts the acknowledgement timer when a notice is marked SENT; then the choice. -/
def State.noticeEnds (s : State) : State :=
  let timed := if s.notices.queue.any (·.sent) then s.withNotices { s.notices with ack := .running Config.ackPeriod } else s
  timed.txIdle.settle

/-! ## The request queue (R173) -/

/-- R173: a valid request as an entry. -/
def newEntry (code tag : Byte) (payload : List Byte) (m : Mark) : Entry := ⟨code, tag, payload, m, none⟩

/-- How many entries of a mark the queue holds. -/
def countMark (m : Mark) (q : List Entry) : Nat := (q.filter fun e => decide (e.mark = m)).length

/-- R173: a valid request is placed as EXECUTE, else as OVERRUN, else discarded. -/
def placeRequest (code tag : Byte) (payload : List Byte) (q : List Entry) : List Entry :=
  if countMark .execute q < Config.maxExecute then q ++ [newEntry code tag payload .execute]
  else if countMark .overrun q < Config.maxOverrun then q ++ [newEntry code tag payload .overrun]
  else q

/-- R173, R174, R177: a valid request is handed on: placed, served when it is the head, and the transmitter's choice made. -/
def State.handOn (s : State) (code tag : Byte) (payload : List Byte) : State :=
  ((s.withQueue (placeRequest code tag payload s.link.queue)).serveHead).settle

/-! ## The receiver (R168 to R170) -/

/-- R167, R171: the receiver takes bytes in RECALLING and RUNNING, but not in BREAK. -/
def State.takesBytes (s : State) : Bool := decide (s.startup.phase ≠ .resetHeld) && decide (s.link.phase ≠ .inBreak)

/-- R169, R170: the receiver in HUNT with no partial frame and the gap timer stopped. -/
def State.hunt (s : State) : State := s.withLink { s.link with phase := .hunt, collected := [], gap := .stopped }

/-- R168: the receiver in COLLECT with these bytes after the marker, the gap timer started again (R170). -/
def State.collecting (s : State) (bytes : List Byte) : State :=
  s.withLink { s.link with phase := .collect, collected := bytes, gap := .running Config.gapPeriod }

/-- R168: a byte examined in HUNT: the marker begins a frame, any other byte is discarded. -/
def State.huntByte (s : State) (b : Byte) : State :=
  if b = byteOf Config.marker then s.collecting [] else s.hunt

/-- R166, R168: how many bytes after the marker a frame of a length byte has: the length byte, the length, two check bytes. -/
def frameSize (len : Byte) : Nat := len.toNat + 3

/-- R169: the check of a collected frame matches, over the length byte through the last payload byte. -/
def checkMatches (bytes : List Byte) : Bool :=
  decide (bytes.drop (bytes.length - 2) = crcBytes (bytes.take (bytes.length - 2)))

/-- R169: a whole collected frame is disposed of: a matching frame of class 1 is a valid request; any other is discarded. -/
def State.frameDone (s : State) (bytes : List Byte) : State :=
  if !checkMatches bytes then s
  else
    match bytes.take (bytes.length - 2) with
    | _ :: cls :: code :: tag :: payload => if cls = 1 then s.handOn code tag payload else s
    | _ => s

/-- R169: whether a byte is the last check byte of the frame being collected. -/
def Link.isLastByte (l : Link) : Bool :=
  match l.collected with
  | [] => false
  | len :: _ => decide (l.phase = .collect) && decide (l.collected.length + 1 = frameSize len)

/-- R168: a length byte: 3..120 is kept; any other ends the frame and is examined in HUNT. -/
def State.lengthByte (s : State) (b : Byte) : State :=
  if Config.minLength ≤ b.toNat ∧ b.toNat ≤ Config.maxLength then s.collecting [b] else s.hunt.huntByte b

/-- R168, R169: a byte in COLLECT. -/
def State.collectByte (s : State) (b : Byte) : State :=
  if s.link.isLastByte then s.hunt.frameDone (s.link.collected ++ [b])
  else if s.link.collected = [] then s.lengthByte b
  else s.collecting (s.link.collected ++ [b])

/-- R171: RXD stands high: the low-line timer is stopped. -/
def State.rxdHigh (s : State) : State :=
  (s.withPins { s.pins with rxdLow := false }).withLink { s.link with lowLine := .stopped }

/-- R168: a character with a high stop bit is received. -/
def State.byteReceived (s : State) (b : Byte) : State :=
  if s.takesBytes then
    match s.link.phase with
    | .hunt => s.rxdHigh.huntByte b
    | .collect => s.rxdHigh.collectByte b
    | .inBreak => s
  else s

/-- R169: the last check byte of a frame is received. -/
def State.lastByteReceived (s : State) (b : Byte) : State :=
  if s.takesBytes && s.link.isLastByte then s.rxdHigh.hunt.frameDone (s.link.collected ++ [b]) else s

/-- R171: RXD has gone low: the low-line timer starts unless it runs already (log 8). -/
def State.rxdFalls (s : State) : State :=
  (s.withPins { s.pins with rxdLow := true }).withLink { s.link with
    lowLine := if s.link.lowLine = .stopped then .running Config.lowLinePeriod else s.link.lowLine }

/-- R170: a framing error: in COLLECT it discards the partial frame; RXD is then low. -/
def State.framingError (s : State) : State :=
  if s.takesBytes then (if s.link.phase = .collect then s.hunt else s).rxdFalls else s

/-- R170: the gap timer expires in COLLECT. -/
def State.gapExpires (s : State) : State := s.hunt

/-! ## Break and link reset (R171, R172) -/

/-- R172 step 3: the frame the transmitter has begun goes on; its entry is gone. -/
def TxFrame.orphan : TxFrame → TxFrame
  | .idle => .idle
  | .reply r _ => .reply r false
  | .notice n => .notice n

/-- R172 steps 1 to 4 and the session of step 5. -/
def Link.afterLinkReset (l : Link) : Link :=
  { l with collected := [], gap := .stopped, queue := [], tx := l.tx.orphan, cache := none, opened := false,
           level := .observe }

/-- R172: whether the removed entries include an executed RESET_PART whose reply frame had not begun. -/
def Link.dropsReset (l : Link) : Bool :=
  match l.tx with
  | .reply _ true => false
  | .reply _ false | .idle | .notice _ =>
      match l.readyReply with
      | some r => r.resets
      | none => false

/-- R172: the link reset, without the full reset it may begin. -/
def State.linkReset (s : State) : State :=
  ((s.withLink s.link.afterLinkReset).closeEdit .linkReset).unsendNotices

/-- R171, R172: the low-line timer has expired: the link reset, the phase BREAK, and the full reset of a RESET_PART whose
reply it removed. The full reset's own receiver values stand (log 9). -/
def State.breakTaken (s : State) : State :=
  let reset := s.linkReset
  let broken := (reset.withLink { reset.link with phase := .inBreak, lowLine := .stopped }).withPins
    { s.pins with rxdLow := true }
  if s.link.dropsReset then broken.requestReset else broken

/-- R171: milliseconds until a line that is or goes low has been low for 20 ms. -/
def Link.toBreak (l : Link) : Nat :=
  match l.lowLine with
  | .stopped => Config.lowLinePeriod
  | .running left => left

/-- R171: a break: RXD is low until the low-line timer expires. In RESET_HELD the timer does not run and only the level is
noted; in BREAK the line is already low. -/
def State.lineBreak (s : State) : State :=
  if s.startup.phase = .resetHeld then s.withPins { s.pins with rxdLow := true }
  else if s.link.phase = .inBreak then s
  else (s.elapse s.link.toBreak).breakTaken

/-- R171: RXD returns to its high level; from BREAK the receiver goes to HUNT. -/
def State.breakEnd (s : State) : State :=
  let high := s.rxdHigh
  if s.link.phase = .inBreak then high.hunt else high

end Sys2Proof.Machine
end

