-- ==== Sys2Proof/Machine/Power.lean ====
section
/-! DEFINITION. Power events, the end of RESET_HELD and the end of recall (chapter 12). -/

namespace Sys2Proof.Machine

/-- R188: power is first applied, or the supply falls below the logic threshold. -/
def State.supplyFails (s : State) : State := (s.withPins { s.pins with supplyGood := false }).fullReset .power

/-- R188: the cause of a reset that the RESET input begins: a reset that passes through loss of supply reports POWER. -/
def Pins.resetCause (p : Pins) : ResetCause := if p.supplyGood then .pin else .power

/-- R188: the RESET input is asserted. -/
def State.resetPinTaken (s : State) : State := (s.withPins { s.pins with reset := true }).fullReset s.pins.resetCause

/-- R188: the supply stands above the threshold and RESET is deasserted: RESET_HELD ends. -/
def State.resetReleased (s : State) : State :=
  (s.withPins { s.pins with reset := false, supplyGood := true }).endResetHeld

/-- R190 step 1: the chosen profile is installed with the edit state NO_EDIT, and the slots stand as judged. -/
def State.installRecalled (s : State) : State :=
  (s.withNv s.nv.judged).withStore ⟨s.nv.recall.2, none, .stopped⟩

/-- R44: each target at the floor of its channel. -/
def State.targetsToFloors (s : State) : State := s.withTargets (Quad.ofFn fun n => (s.prof n).floor)

/-- R63: each Drive Stage goes to PARKED at its park code. -/
def State.driveParks (s : State) : State := { s with drive := Quad.ofFn fun n => ⟨(s.prof n).park, .parked, .stopped⟩ }

/-- R67: the Trip Scanner starts at slot 0. -/
def State.startScanner (s : State) : State := s.withScanner { s.scanner with scanning := true, position := 0 }

/-- R84: the Measurement Sequencer starts in RESTRICTED mode with a conversion of TEMP. -/
def State.startSequencer (s : State) : State :=
  s.withSeq { s.seq with running := true, point := .temp, mode := .restricted, timer := .running Config.conversionPeriod }

/-- R190 step 5: the START notice. -/
def State.postStart (s : State) (outcome : RecallOutcome) : State :=
  s.post (.start s.startup.cause outcome s.store.active.generation)

/-- R30: a start-enabled channel leaves DISABLED with cause START. -/
def State.startChannel (s : State) (n : Chan) : State := if (s.prof n).startEnabled then s.startWanted n .start else s

/-- R190 step 7. -/
def State.nowRunning (s : State) : State := s.withStartup { s.startup with phase := .running }

/-- R190 steps 1 to 4. -/
def State.bringUp (s : State) : State :=
  s.installRecalled.targetsToFloors.driveParks.startScanner.startSequencer

/-- R190: the end of recall, one event. -/
def State.recallEnds (s : State) : State :=
  (forEachChan State.startChannel (s.bringUp.postStart s.nv.recall.1)).nowRunning

/-- R189: recall ends at an uptime of 1: milliseconds until then. -/
def State.toRecallEnd (s : State) : Nat := if s.startup.uptime = 0 then 1 else 0

end Sys2Proof.Machine
end

