-- ==== Sys2Proof/Machine/Requests.lean ====
section
/-! DEFINITION. The meanings of the request rows of spec/opcode_table.json, one each. A request row's command is the arrival of
that request's frame, whole and with a matching check (log 1): R169 hands it on, R173 places it, R174 serves it when it is the
head, and the owner's rule (the one each docstring names) says what it does. -/

namespace Sys2Proof.Machine

/-- What a meaning answers. Every command of this part answers a next state. -/
abbrev Result := Host.Outcome State Fault Refusal

/-- R169: a valid request has been received: the receiver is in HUNT, RXD stands high, and the request is handed on. In
RESET_HELD and in BREAK the receiver takes no bytes and nothing happens (R167, R171). -/
def State.receiveRequest (s : State) (code tag : Byte) (payload : List Byte) : State :=
  if s.takesBytes then s.rxdHigh.hunt.handOn code tag payload else s

/-- HELLO, R181: `serveHello` when it is executed. -/
def execHello (tag : Byte) (payload : List Byte) (s : State) : Result :=
  .next (s.receiveRequest RequestName.hello.code tag payload)

/-- BYE, R182: `serveBye` when it is executed. -/
def execBye (tag : Byte) (payload : List Byte) (s : State) : Result :=
  .next (s.receiveRequest RequestName.bye.code tag payload)

/-- IDENTIFY, R183: `serveIdentify` when it is executed. -/
def execIdentify (tag : Byte) (payload : List Byte) (s : State) : Result :=
  .next (s.receiveRequest RequestName.identify.code tag payload)

/-- SET_LEVEL, R185: `serveSetLevel` when it is executed. -/
def execSetLevel (tag : Byte) (payload : List Byte) (s : State) : Result :=
  .next (s.receiveRequest RequestName.setLevel.code tag payload)

/-- SET_NOTICE_MASK, R158: `serveSetNoticeMask` when it is executed. -/
def execSetNoticeMask (tag : Byte) (payload : List Byte) (s : State) : Result :=
  .next (s.receiveRequest RequestName.setNoticeMask.code tag payload)

/-- ACK_NOTICES, R161: `serveAckNotices` when it is executed. -/
def execAckNotices (tag : Byte) (payload : List Byte) (s : State) : Result :=
  .next (s.receiveRequest RequestName.ackNotices.code tag payload)

/-- RESET_PART, R191: `serveResetPart` when it is executed. -/
def execResetPart (tag : Byte) (payload : List Byte) (s : State) : Result :=
  .next (s.receiveRequest RequestName.resetPart.code tag payload)

/-- ENABLE, R14: `serveEnable` when it is executed. -/
def execEnable (tag : Byte) (payload : List Byte) (s : State) : Result :=
  .next (s.receiveRequest RequestName.enable.code tag payload)

/-- DISABLE, R15: `serveDisable` when it is executed. -/
def execDisable (tag : Byte) (payload : List Byte) (s : State) : Result :=
  .next (s.receiveRequest RequestName.disable.code tag payload)

/-- CLEAR, R17: `serveClear` when it is executed. -/
def execClear (tag : Byte) (payload : List Byte) (s : State) : Result :=
  .next (s.receiveRequest RequestName.clear.code tag payload)

/-- SOFT_HOLD, R18: `serveSoftHold` when it is executed. -/
def execSoftHold (tag : Byte) (payload : List Byte) (s : State) : Result :=
  .next (s.receiveRequest RequestName.softHold.code tag payload)

/-- CHANNEL_STATUS, R32: `serveChannelStatus` when it is executed. -/
def execChannelStatus (tag : Byte) (payload : List Byte) (s : State) : Result :=
  .next (s.receiveRequest RequestName.channelStatus.code tag payload)

/-- EVAL_CURVE, R49: `serveEvalCurve` when it is executed. -/
def execEvalCurve (tag : Byte) (payload : List Byte) (s : State) : Result :=
  .next (s.receiveRequest RequestName.evalCurve.code tag payload)

/-- READ_SCAN, R80: `serveReadScan` when it is executed. -/
def execReadScan (tag : Byte) (payload : List Byte) (s : State) : Result :=
  .next (s.receiveRequest RequestName.readScan.code tag payload)

/-- READ_POINTS, R100: `serveReadPoints` when it is executed. -/
def execReadPoints (tag : Byte) (payload : List Byte) (s : State) : Result :=
  .next (s.receiveRequest RequestName.readPoints.code tag payload)

/-- OPEN_EDIT, R107: `serveOpenEdit` when it is executed. -/
def execOpenEdit (tag : Byte) (payload : List Byte) (s : State) : Result :=
  .next (s.receiveRequest RequestName.openEdit.code tag payload)

/-- ABANDON_EDIT, R118: `serveAbandonEdit` when it is executed. -/
def execAbandonEdit (tag : Byte) (payload : List Byte) (s : State) : Result :=
  .next (s.receiveRequest RequestName.abandonEdit.code tag payload)

/-- PUT_CURVE, R110: `servePutCurve` when it is executed. -/
def execPutCurve (tag : Byte) (payload : List Byte) (s : State) : Result :=
  .next (s.receiveRequest RequestName.putCurve.code tag payload)

/-- PUT_CHANNEL, R111: `servePutChannel` when it is executed. -/
def execPutChannel (tag : Byte) (payload : List Byte) (s : State) : Result :=
  .next (s.receiveRequest RequestName.putChannel.code tag payload)

/-- PUT_TRIP, R112: `servePutTrip` when it is executed. -/
def execPutTrip (tag : Byte) (payload : List Byte) (s : State) : Result :=
  .next (s.receiveRequest RequestName.putTrip.code tag payload)

/-- PUT_SCAN_LIST, R113: `servePutScanList` when it is executed. -/
def execPutScanList (tag : Byte) (payload : List Byte) (s : State) : Result :=
  .next (s.receiveRequest RequestName.putScanList.code tag payload)

/-- PUT_WINDOW, R114: `servePutWindow` when it is executed. -/
def execPutWindow (tag : Byte) (payload : List Byte) (s : State) : Result :=
  .next (s.receiveRequest RequestName.putWindow.code tag payload)

/-- PUT_SUPPLY, R115: `servePutSupply` when it is executed. -/
def execPutSupply (tag : Byte) (payload : List Byte) (s : State) : Result :=
  .next (s.receiveRequest RequestName.putSupply.code tag payload)

/-- PUT_ACCESS_CODE, R116: `servePutAccessCode` when it is executed. -/
def execPutAccessCode (tag : Byte) (payload : List Byte) (s : State) : Result :=
  .next (s.receiveRequest RequestName.putAccessCode.code tag payload)

/-- PUT_LABEL, R116: `servePutLabel` when it is executed. -/
def execPutLabel (tag : Byte) (payload : List Byte) (s : State) : Result :=
  .next (s.receiveRequest RequestName.putLabel.code tag payload)

/-- GET_PROFILE, R117: `serveGetProfile` when it is executed. -/
def execGetProfile (tag : Byte) (payload : List Byte) (s : State) : Result :=
  .next (s.receiveRequest RequestName.getProfile.code tag payload)

/-- COMMIT, R121: `serveCommit` when it is executed. -/
def execCommit (tag : Byte) (payload : List Byte) (s : State) : Result :=
  .next (s.receiveRequest RequestName.commit.code tag payload)

/-- PERSIST, R138: `servePersist` when it is executed. -/
def execPersist (tag : Byte) (payload : List Byte) (s : State) : Result :=
  .next (s.receiveRequest RequestName.persist.code tag payload)

/-- REVERT, R125: `serveRevert` when it is executed. -/
def execRevert (tag : Byte) (payload : List Byte) (s : State) : Result :=
  .next (s.receiveRequest RequestName.revert.code tag payload)

/-- STORE_STATUS, R139: `serveStoreStatus` when it is executed. -/
def execStoreStatus (tag : Byte) (payload : List Byte) (s : State) : Result :=
  .next (s.receiveRequest RequestName.storeStatus.code tag payload)

/-- READ_LOG, R149: `serveReadLog` when it is executed. -/
def execReadLog (tag : Byte) (payload : List Byte) (s : State) : Result :=
  .next (s.receiveRequest RequestName.readLog.code tag payload)

/-- CLEAR_LOG, R151: `serveClearLog` when it is executed. -/
def execClearLog (tag : Byte) (payload : List Byte) (s : State) : Result :=
  .next (s.receiveRequest RequestName.clearLog.code tag payload)

/-- UNKNOWN_REQUEST, R174 step 3: a request whose code the index does not have is answered UNKNOWN when it is served. -/
def execUnknownRequest (code tag : Byte) (payload : List Byte) (s : State) : Result :=
  .next (s.receiveRequest code tag payload)

/-- OVERRUN, R173: a request that finds two EXECUTE entries held is appended as an OVERRUN entry; serving that entry composes
`overrunReply` and executes nothing (`serveEntry`). Where fewer are held the request is no overrun and is placed as R173 says
(log 2). -/
def execOverrun (code tag : Byte) (payload : List Byte) (s : State) : Result :=
  .next (s.receiveRequest code tag payload)

end Sys2Proof.Machine
end

