-- ==== Sys2Proof/Machine/Events.lean ====
section
/-! DEFINITION. The meanings of the event rows of spec/opcode_table.json, one each. An event that cannot occur in a state (the
expiry of a stopped timer, the end of a frame that is not on the line) changes nothing there (log 6). A timer's expiry takes
place when its period has ended: the milliseconds still left to it pass first (log 4). `State.settle` is the transmitter's
choice after an event carried out in full (R177). -/

namespace Sys2Proof.Machine

/-! ## Receiver -/

/-- FRAME_RECEIVED, R169. -/
def execFrameReceived (last : Byte) (s : State) : Result := .next (s.lastByteReceived last)

/-- FRAMING_ERROR, R170. -/
def execFramingError (s : State) : Result := .next s.framingError

/-- GAP_TIMER_EXPIRY, R170. -/
def execGapTimerExpiry (s : State) : Result :=
  match s.link.gap with
  | .running left => .next (s.elapse left).gapExpires
  | .stopped => .next s

/-- BREAK, R171 and R172. -/
def execLineBreak (s : State) : Result := .next s.lineBreak

/-- BREAK_END, R171. -/
def execBreakEnd (s : State) : Result := .next s.breakEnd

/-- BYTE_RECEIVED, R168; a byte that is a frame's last check byte completes the frame by R169 (log 19). -/
def execByteReceived (char : Byte) (s : State) : Result := .next (s.byteReceived char)

/-! ## Transmitter -/

/-- REPLY_FRAME_END, R177; the end of the reply of an executed RESET_PART begins the full reset instead (R191). -/
def execReplyFrameEnd (s : State) : Result :=
  match s.link.tx with
  | .reply r held => if r.resets then .next s.requestReset else .next (s.replyEnds held)
  | .idle | .notice _ => .next s

/-- NOTICE_FRAME_END, R160 and R177. -/
def execNoticeFrameEnd (s : State) : Result :=
  match s.link.tx with
  | .notice _ => .next s.noticeEnds
  | .idle | .reply _ _ => .next s

/-! ## Timers of the link and the edit -/

/-- ACKNOWLEDGEMENT_TIMER_EXPIRY, R160. -/
def execAcknowledgementTimerExpiry (s : State) : Result :=
  match s.notices.ack with
  | .running left => .next (s.elapse left).ackExpires.settle
  | .stopped => .next s

/-- LOCKOUT_TIMER_EXPIRY, R187. -/
def execLockoutTimerExpiry (s : State) : Result :=
  match s.link.lockout with
  | .running left => .next (s.elapse left).lockoutExpires
  | .stopped => .next s

/-- EDIT_IDLE_TIMER_EXPIRY, R108. -/
def execEditIdleTimerExpiry (s : State) : Result :=
  match s.store.idle with
  | .running left => .next (s.elapse left).editIdleExpires.settle
  | .stopped => .next s

/-! ## Channels -/

/-- HOLD_PIN_CHANGE, R3; a pin that already stands at the level does not change. -/
def execHoldPinChange (n : Chan) (asserted : Bool) (s : State) : Result :=
  if s.pins.hold.get n = asserted then .next s else .next (s.holdPinTaken n asserted).settle

/-- BLANKING_TIMER_EXPIRY, R10; the timer runs in RAMPING alone. -/
def execBlankingTimerExpiry (n : Chan) (s : State) : Result :=
  match (s.channels.get n).state, (s.channels.get n).blanking with
  | .ramping, .running left => .next ((s.elapse left).blankingExpires n).settle
  | _, _ => .next s

/-- STABLE_TIMER_EXPIRY, R12; the timer runs in ACTIVE alone. -/
def execStableTimerExpiry (n : Chan) (s : State) : Result :=
  match (s.channels.get n).state, (s.channels.get n).stable with
  | .active, .running left => .next ((s.elapse left).stableExpires n)
  | _, _ => .next s

/-- RETRY_TIMER_EXPIRY, R25; the timer runs in TRIPPED alone. -/
def execRetryTimerExpiry (n : Chan) (s : State) : Result :=
  match (s.channels.get n).state, (s.channels.get n).retry with
  | .tripped, .running left => .next ((s.elapse left).retryExpires n).settle
  | _, _ => .next s

/-- RAMP_TICK, R55 to R57. -/
def execRampTick (n : Chan) (s : State) : Result :=
  match (s.drive.get n).tick with
  | .running left => .next ((s.elapse left).rampTick n).settle
  | .stopped => .next s

/-- CONFIRMED_TRIP, R73 and R19; only a pending confirmation can be taken, and none before the end of recall (R1). -/
def execConfirmedTrip (n : Chan) (kind : TripKind) (s : State) : Result :=
  if s.startup.phase = .running ∧ (s.channels.get n).confirmations.has kind then
    .next (s.takeConfirmation n kind).settle
  else .next s

/-! ## Scanner, sequencer, store -/

/-- SCAN_STEP, R68. -/
def execScanStep (sense : BitVec 10) (s : State) : Result :=
  if s.scanner.scanning then .next (s.scanStep sense) else .next s

/-- CONVERSION_COMPLETION, R84 to R88. -/
def execConversionCompletion (value : Int) (s : State) : Result :=
  match s.seq.running, s.seq.timer with
  | true, .running left => .next ((s.elapse left).conversionCompletes value).settle
  | _, _ => .next s

/-- PAGE_WRITE_COMPLETION, R131 to R133; the write has lasted its least duration (log 14). -/
def execPageWriteCompletion (matched : Bool) (s : State) : Result :=
  match s.nv.op with
  | some o => .next ((s.elapse o.write.remaining).pageCompletes o matched).settle
  | none => .next s

/-! ## Power and start-up -/

/-- POWER, R188. -/
def execPower (s : State) : Result := .next s.supplyFails

/-- RESET_PIN_ASSERTED, R188: cause PIN, or POWER while the supply is below the threshold. -/
def execResetPinAsserted (s : State) : Result := .next s.resetPinTaken

/-- RESET_HELD_END, R188. -/
def execResetHeldEnd (s : State) : Result :=
  if s.startup.phase = .resetHeld then .next s.resetReleased else .next s

/-- END_OF_RECALL, R190. -/
def execEndOfRecall (s : State) : Result :=
  if s.startup.phase = .recalling then .next (s.elapse s.toRecallEnd).recallEnds.settle else .next s

end Sys2Proof.Machine
end

