-- ==== Sys2Proof/Machine/Dispatch.lean ====
section
/-! DEFINITION. The dispatch: one arm per command. -/

namespace Sys2Proof.Machine

def exec (i : Instr) (s : State) : Host.Outcome State Fault Refusal :=
  match i with
  | .hello tag payload => Sys2Proof.Machine.execHello tag payload s
  | .bye tag payload => Sys2Proof.Machine.execBye tag payload s
  | .identify tag payload => Sys2Proof.Machine.execIdentify tag payload s
  | .setLevel tag payload => Sys2Proof.Machine.execSetLevel tag payload s
  | .setNoticeMask tag payload => Sys2Proof.Machine.execSetNoticeMask tag payload s
  | .ackNotices tag payload => Sys2Proof.Machine.execAckNotices tag payload s
  | .resetPart tag payload => Sys2Proof.Machine.execResetPart tag payload s
  | .enable tag payload => Sys2Proof.Machine.execEnable tag payload s
  | .disable tag payload => Sys2Proof.Machine.execDisable tag payload s
  | .clear tag payload => Sys2Proof.Machine.execClear tag payload s
  | .softHold tag payload => Sys2Proof.Machine.execSoftHold tag payload s
  | .channelStatus tag payload => Sys2Proof.Machine.execChannelStatus tag payload s
  | .evalCurve tag payload => Sys2Proof.Machine.execEvalCurve tag payload s
  | .readScan tag payload => Sys2Proof.Machine.execReadScan tag payload s
  | .readPoints tag payload => Sys2Proof.Machine.execReadPoints tag payload s
  | .openEdit tag payload => Sys2Proof.Machine.execOpenEdit tag payload s
  | .abandonEdit tag payload => Sys2Proof.Machine.execAbandonEdit tag payload s
  | .putCurve tag payload => Sys2Proof.Machine.execPutCurve tag payload s
  | .putChannel tag payload => Sys2Proof.Machine.execPutChannel tag payload s
  | .putTrip tag payload => Sys2Proof.Machine.execPutTrip tag payload s
  | .putScanList tag payload => Sys2Proof.Machine.execPutScanList tag payload s
  | .putWindow tag payload => Sys2Proof.Machine.execPutWindow tag payload s
  | .putSupply tag payload => Sys2Proof.Machine.execPutSupply tag payload s
  | .putAccessCode tag payload => Sys2Proof.Machine.execPutAccessCode tag payload s
  | .putLabel tag payload => Sys2Proof.Machine.execPutLabel tag payload s
  | .getProfile tag payload => Sys2Proof.Machine.execGetProfile tag payload s
  | .commit tag payload => Sys2Proof.Machine.execCommit tag payload s
  | .persist tag payload => Sys2Proof.Machine.execPersist tag payload s
  | .revert tag payload => Sys2Proof.Machine.execRevert tag payload s
  | .storeStatus tag payload => Sys2Proof.Machine.execStoreStatus tag payload s
  | .readLog tag payload => Sys2Proof.Machine.execReadLog tag payload s
  | .clearLog tag payload => Sys2Proof.Machine.execClearLog tag payload s
  | .unknownRequest code tag payload => Sys2Proof.Machine.execUnknownRequest code tag payload s
  | .overrun code tag payload => Sys2Proof.Machine.execOverrun code tag payload s
  | .frameReceived last => Sys2Proof.Machine.execFrameReceived last s
  | .framingError => Sys2Proof.Machine.execFramingError s
  | .gapTimerExpiry => Sys2Proof.Machine.execGapTimerExpiry s
  | .lineBreak => Sys2Proof.Machine.execLineBreak s
  | .breakEnd => Sys2Proof.Machine.execBreakEnd s
  | .replyFrameEnd => Sys2Proof.Machine.execReplyFrameEnd s
  | .noticeFrameEnd => Sys2Proof.Machine.execNoticeFrameEnd s
  | .acknowledgementTimerExpiry => Sys2Proof.Machine.execAcknowledgementTimerExpiry s
  | .lockoutTimerExpiry => Sys2Proof.Machine.execLockoutTimerExpiry s
  | .editIdleTimerExpiry => Sys2Proof.Machine.execEditIdleTimerExpiry s
  | .holdPinChange n asserted => Sys2Proof.Machine.execHoldPinChange n asserted s
  | .blankingTimerExpiry n => Sys2Proof.Machine.execBlankingTimerExpiry n s
  | .stableTimerExpiry n => Sys2Proof.Machine.execStableTimerExpiry n s
  | .retryTimerExpiry n => Sys2Proof.Machine.execRetryTimerExpiry n s
  | .rampTick n => Sys2Proof.Machine.execRampTick n s
  | .scanStep sense => Sys2Proof.Machine.execScanStep sense s
  | .confirmedTrip n kind => Sys2Proof.Machine.execConfirmedTrip n kind s
  | .conversionCompletion value => Sys2Proof.Machine.execConversionCompletion value s
  | .pageWriteCompletion matched => Sys2Proof.Machine.execPageWriteCompletion matched s
  | .power => Sys2Proof.Machine.execPower s
  | .resetPinAsserted => Sys2Proof.Machine.execResetPinAsserted s
  | .resetHeldEnd => Sys2Proof.Machine.execResetHeldEnd s
  | .endOfRecall => Sys2Proof.Machine.execEndOfRecall s
  | .byteReceived char => Sys2Proof.Machine.execByteReceived char s

end Sys2Proof.Machine
end

