-- ==== Sys2Proof/WellFormed.lean ====
section
/-! DEFINITION. Which commands can be sent at all: what a frame can carry (R166) and what the operands of a row mean. -/

namespace Sys2Proof

open Sys2Proof.Machine

/-- R166: a payload of a frame has at most 117 bytes. -/
def fitsAFrame (payload : List Byte) : Bool := decide (payload.length ≤ Config.maxPayload)

/-- R174 step 3: the row UNKNOWN_REQUEST stands for the codes that the request index does not have. -/
def isUnknownCode (code : Byte) : Bool := (requestOfCode code).isNone

/-- R82: a result that the front end delivers for some measured point; the point in conversion narrows it further. -/
def isDeliverable (value : Int) : Bool := decide (-880 ≤ value ∧ value ≤ 6000)

/-- The payload a command's frame carries; an event that is no request carries none. -/
def Instr.framePayload : Instr → Option (List Byte)
  | .hello _ payload => some payload
  | .bye _ payload => some payload
  | .identify _ payload => some payload
  | .setLevel _ payload => some payload
  | .setNoticeMask _ payload => some payload
  | .ackNotices _ payload => some payload
  | .resetPart _ payload => some payload
  | .enable _ payload => some payload
  | .disable _ payload => some payload
  | .clear _ payload => some payload
  | .softHold _ payload => some payload
  | .channelStatus _ payload => some payload
  | .evalCurve _ payload => some payload
  | .readScan _ payload => some payload
  | .readPoints _ payload => some payload
  | .openEdit _ payload => some payload
  | .abandonEdit _ payload => some payload
  | .putCurve _ payload => some payload
  | .putChannel _ payload => some payload
  | .putTrip _ payload => some payload
  | .putScanList _ payload => some payload
  | .putWindow _ payload => some payload
  | .putSupply _ payload => some payload
  | .putAccessCode _ payload => some payload
  | .putLabel _ payload => some payload
  | .getProfile _ payload => some payload
  | .commit _ payload => some payload
  | .persist _ payload => some payload
  | .revert _ payload => some payload
  | .storeStatus _ payload => some payload
  | .readLog _ payload => some payload
  | .clearLog _ payload => some payload
  | .unknownRequest _ _ payload => some payload
  | .overrun _ _ payload => some payload
  | .frameReceived _ => none
  | .framingError => none
  | .gapTimerExpiry => none
  | .lineBreak => none
  | .breakEnd => none
  | .replyFrameEnd => none
  | .noticeFrameEnd => none
  | .acknowledgementTimerExpiry => none
  | .lockoutTimerExpiry => none
  | .editIdleTimerExpiry => none
  | .holdPinChange _ _ => none
  | .blankingTimerExpiry _ => none
  | .stableTimerExpiry _ => none
  | .retryTimerExpiry _ => none
  | .rampTick _ => none
  | .scanStep _ => none
  | .confirmedTrip _ _ => none
  | .conversionCompletion _ => none
  | .pageWriteCompletion _ => none
  | .power => none
  | .resetPinAsserted => none
  | .resetHeldEnd => none
  | .endOfRecall => none
  | .byteReceived _ => none

/-- What the operands of a row other than its payload must satisfy. -/
def Instr.operandsMeet : Instr → Bool
  | .unknownRequest code _ _ => isUnknownCode code
  | .conversionCompletion value => isDeliverable value
  | _ => true

/-- A well-formed command: its payload fits a frame and its operands are ones its row stands for. `exec` gives every command
a meaning, well formed or not. -/
def Instr.wellFormed (i : Instr) : Bool := i.framePayload.all fitsAFrame && i.operandsMeet

end Sys2Proof
end

