-- ==== Sys2Proof/Safety.lean ====
section
/-! DEFINITION. What a safe run of the part is: the invariants that the chapters state about its blocks, and the words that
the statements about single commands use: a request that is executed as it arrives, the link after its answer, the bytes on the
line, all that the part holds about one channel, and the paths that channels take through their states. The tables and layouts
here are written from the spec a second time, apart from the definitions of Machine/. -/

namespace Sys2Proof.Machine

/-! ## Requests -/

/-- Section 10.10: the command of a request of the index. -/
def requestCommand (r : RequestName) (tag : Byte) (payload : List Byte) : Instr :=
  match r with
  | .hello => .hello tag payload
  | .bye => .bye tag payload
  | .identify => .identify tag payload
  | .setLevel => .setLevel tag payload
  | .setNoticeMask => .setNoticeMask tag payload
  | .ackNotices => .ackNotices tag payload
  | .resetPart => .resetPart tag payload
  | .enable => .enable tag payload
  | .disable => .disable tag payload
  | .clear => .clear tag payload
  | .softHold => .softHold tag payload
  | .channelStatus => .channelStatus tag payload
  | .evalCurve => .evalCurve tag payload
  | .readScan => .readScan tag payload
  | .readPoints => .readPoints tag payload
  | .openEdit => .openEdit tag payload
  | .abandonEdit => .abandonEdit tag payload
  | .putCurve => .putCurve tag payload
  | .putChannel => .putChannel tag payload
  | .putTrip => .putTrip tag payload
  | .putScanList => .putScanList tag payload
  | .putWindow => .putWindow tag payload
  | .putSupply => .putSupply tag payload
  | .putAccessCode => .putAccessCode tag payload
  | .putLabel => .putLabel tag payload
  | .getProfile => .getProfile tag payload
  | .commit => .commit tag payload
  | .persist => .persist tag payload
  | .revert => .revert tag payload
  | .storeStatus => .storeStatus tag payload
  | .readLog => .readLog tag payload
  | .clearLog => .clearLog tag payload

/-- The command is the arrival of a request of this code, tag and payload (R169): the row of that code, UNKNOWN_REQUEST, or
OVERRUN (logs 1 and 2). -/
def IsRequest (i : Instr) (code tag : Byte) (payload : List Byte) : Prop :=
  i = .unknownRequest code tag payload ∨ i = .overrun code tag payload
    ∨ ∃ r : RequestName, r.code = code ∧ i = requestCommand r tag payload

/-- Section 10.10: a row of the request index; no level stands for "any", and the length may depend on the count byte. -/
structure IndexRow where
  code : Byte
  name : RequestName
  level : Option Level
  length : List Byte → Nat

/-- Section 10.10: the request index. -/
def requestIndex : List IndexRow :=
  [⟨0x01, .hello, none, fun _ => 0⟩, ⟨0x02, .bye, some .observe, fun _ => 0⟩, ⟨0x03, .identify, none, fun _ => 0⟩,
    ⟨0x04, .setLevel, some .observe, fun _ => 5⟩, ⟨0x05, .setNoticeMask, some .observe, fun _ => 1⟩,
    ⟨0x06, .ackNotices, some .observe, fun _ => 1⟩, ⟨0x07, .resetPart, some .operate, fun _ => 0⟩,
    ⟨0x10, .enable, some .operate, fun _ => 1⟩, ⟨0x11, .disable, some .operate, fun _ => 1⟩,
    ⟨0x12, .clear, some .operate, fun _ => 1⟩, ⟨0x13, .softHold, some .operate, fun _ => 2⟩,
    ⟨0x14, .channelStatus, some .observe, fun _ => 1⟩, ⟨0x19, .evalCurve, some .observe, fun _ => 5⟩,
    ⟨0x1C, .readScan, some .observe, fun _ => 0⟩, ⟨0x20, .readPoints, some .observe, fun _ => 2⟩]
  ++ [⟨0x30, .openEdit, some .calibrate, fun _ => 0⟩, ⟨0x31, .abandonEdit, some .calibrate, fun _ => 0⟩,
    ⟨0x32, .putCurve, some .calibrate, fun payload => 2 + 4 * (payload.getD 1 0).toNat⟩,
    ⟨0x33, .putChannel, some .calibrate, fun _ => 25⟩, ⟨0x34, .putTrip, some .calibrate, fun _ => 6⟩,
    ⟨0x35, .putScanList, some .calibrate, fun payload => 1 + (payload.getD 0 0).toNat⟩,
    ⟨0x36, .putWindow, some .calibrate, fun _ => 8⟩, ⟨0x37, .putSupply, some .calibrate, fun _ => 14⟩,
    ⟨0x38, .putAccessCode, some .calibrate, fun _ => 4⟩, ⟨0x39, .putLabel, some .calibrate, fun _ => 4⟩,
    ⟨0x3A, .getProfile, some .observe, fun _ => 3⟩, ⟨0x3B, .commit, some .calibrate, fun _ => 1⟩,
    ⟨0x40, .persist, some .calibrate, fun _ => 0⟩, ⟨0x41, .revert, some .calibrate, fun _ => 0⟩,
    ⟨0x42, .storeStatus, some .observe, fun _ => 0⟩, ⟨0x48, .readLog, some .observe, fun _ => 3⟩,
    ⟨0x49, .clearLog, some .calibrate, fun _ => 0⟩]

/-- R173, R174: a request that arrives now reaches step 1 of R174 at once: the receiver takes bytes and no entry is held. -/
structure State.ServesAtOnce (s : State) : Prop where
  hears : s.takesBytes = true
  empty : s.link.queue = []

/-- R174: a request that arrives now is executed by its owner: it is served at once, the part runs, the reply cache holds no
reply to it, and the session, its level and its length pass. -/
structure State.Executes (s : State) (r : RequestName) (tag : Byte) (payload : List Byte) : Prop where
  atOnce : s.ServesAtOnce
  running : s.startup.phase = .running
  fresh : s.link.replayFor r.code tag = none
  session : s.link.opened = true ∨ r.servedClosed = true
  level : r.level.code ≤ s.link.level.code
  length : r.lengthOk payload = true

/-- R167, R173, R176, R177: the link once a request that arrived has been answered: the receiver hunts, the request's entry is
in service with its reply, and an idle transmitter has begun that reply, which is then the cached one. -/
def Link.answered (l : Link) (code tag : Byte) (request reply : List Byte) (resets : Bool) : Link :=
  { l with
    phase := .hunt
    collected := []
    gap := .stopped
    lowLine := .stopped
    queue := [⟨code, tag, request, .execute, some ⟨code, tag, reply, true, resets⟩⟩]
    tx := if l.tx = .idle then .reply ⟨code, tag, reply, true, resets⟩ true else l.tx
    cache := if l.tx = .idle then some ⟨code, tag, reply⟩ else l.cache }

/-- The state once a request has been answered: the link as above and RXD at its high level; nothing else. -/
def State.answered (s : State) (r : RequestName) (tag : Byte) (request reply : List Byte) : State :=
  { s with
    pins := { s.pins with rxdLow := false }
    link := s.link.answered r.code tag request reply false }

/-- The state seen with the receiver between two frames, RXD high, no entry in the request queue and the transmitter IDLE. -/
def State.atRest (s : State) : State :=
  { s with
    pins := { s.pins with rxdLow := false }
    link := { s.link with
      phase := .hunt, collected := [], gap := .stopped, lowLine := .stopped, queue := [], tx := .idle } }

/-- R109 to R116: the staged copy after a PUT request that carries `payload`; none where a field is out of its range. -/
def stagedAfter (r : RequestName) (payload : List Byte) (p : Profile) : Option Profile :=
  match r with
  | .putCurve => (putCurveIn payload).map fun (n, curve) => p.setChan n { p.channels.get n with curve := curve }
  | .putChannel => (putChannelIn payload p.channels.get).map fun (n, c) => p.setChan n c
  | .putTrip => (putTripIn payload).map fun (n, k, t) => p.setChan n ((p.channels.get n).setSetting k t)
  | .putScanList => (putScanListIn payload).map fun l => { p with scanList := l }
  | .putWindow => (putWindowIn payload).map fun (q, w) => { p with windows := p.windows.set q w }
  | .putSupply => (putSupplyIn payload).map fun x => { p with supply := x }
  | .putAccessCode => (wordIn payload).map fun w => { p with accessCode := w }
  | .putLabel => (wordIn payload).map fun w => { p with label := w }
  | _ => none

/-- Section 6.5: the PUT requests. -/
def putRequests : List RequestName :=
  [.putCurve, .putChannel, .putTrip, .putScanList, .putWindow, .putSupply, .putAccessCode, .putLabel]

/-- The characters of a list received one after another. -/
def receiveBytes (s : State) : List Byte → Host.Outcome State Fault Refusal
  | [] => .next s
  | b :: rest =>
      match exec (.byteReceived b) s with
      | .next t => receiveBytes t rest
      | .fault r => .fault r
      | .refused r => .refused r

/-! ## Bytes on the line (R166, R178, sections 10.9 and 10.11) -/

/-- R166: the bits of a byte as they are fed to the check. -/
def bitsOf (b : Byte) : List Bool :=
  [b.getLsbD 7, b.getLsbD 6, b.getLsbD 5, b.getLsbD 4, b.getLsbD 3, b.getLsbD 2, b.getLsbD 1, b.getLsbD 0]

/-- R166: the remainder of the cyclic division by 1021h, the register preset to FFFFh. -/
def checkOf (bytes : List Byte) : BitVec 16 :=
  (bytes.flatMap bitsOf).foldl (fun reg bit => if reg.msb = bit then reg <<< 1 else (reg <<< 1) ^^^ 0x1021#16) 0xFFFF#16

/-- R178: a value in a number of bytes, least significant first, two's complement. -/
def littleEndian : Nat → Int → List Byte
  | 0, _ => []
  | k + 1, v => BitVec.ofInt 8 v :: littleEndian k (v / 256)

/-- R166: a frame: marker, length, class, code, tag, payload, check. -/
def wireFrame (cls code tag : Byte) (payload : List Byte) : List Byte :=
  let checked := BitVec.ofNat 8 (payload.length + 3) :: cls :: code :: tag :: payload
  0xD3#8 :: checked ++ littleEndian 2 (checkOf checked).toNat

/-- R178: the code of an enumerated value whose codes count up from 0 in the order given. -/
def codeAmong {α : Type} [DecidableEq α] (names : List α) (a : α) : Byte := BitVec.ofNat 8 (names.idxOf a)

/-- R154: the code of a channel state. -/
def stateCode (st : ChState) : Byte :=
  codeAmong [.disabled, .qualifying, .held, .ramping, .active, .windingDown, .tripped, .locked] st

/-- R154: the code of a trip kind. -/
def tripKindCode (k : TripKind) : Byte := codeAmong [.oc, .hr, .lf, .ot] k

/-- R154: the code of an action. -/
def actionCode (a : Action) : Byte := codeAmong [.retry, .lock, .stop, .report] a

/-- R6: the wait-reason set as a mask. -/
def waitMask (w : WaitSet) : Byte :=
  BitVec.ofNat 8 (w.supply.toNat + 2 * w.temperature.toNat + 4 * w.thermal.toNat + 8 * w.profile.toNat + 16 * w.coverage.toNat)

/-- R153, R154, section 10.11: the kind code of a notice, and the fields of its body. -/
def NoticeBody.layout : NoticeBody → Byte × List Byte
  | .start cause outcome generation =>
      (1, [codeAmong [.power, .pin, .request] cause, codeAmong [.slotA, .slotB, .factory] outcome]
        ++ littleEndian 4 generation.toNat)
  | .channel n before after cause wait =>
      (2, [BitVec.ofNat 8 n.val, stateCode before, stateCode after,
        codeAmong [.request, .hold, .release, .trip, .thermal, .retryDue, .supply, .ready, .commit, .settled, .parked, .start]
          cause] ++ match wait with
            | none => [0]
            | some w => [1, waitMask w])
  | .trip number n kind action =>
      (3, littleEndian 2 number.toNat ++ [BitVec.ofNat 8 n.val, tripKindCode kind, actionCode action])
  | .warning p state smoothed => (4, [codeAmong allPoints p, codeAmong [.normal, .high, .low] state] ++ littleEndian 2 smoothed)
  | .supply ok smoothed band => (5, [if ok then 1 else 0] ++ littleEndian 2 smoothed ++ [BitVec.ofNat 8 band.val])
  | .store done slot generation => (6, [if done then 0 else 1, codeAmong [.a, .b] slot] ++ littleEndian 4 generation.toNat)
  | .editClosed cause => (7, [codeAmong [.timeout, .level, .bye, .linkReset] cause])

/-- R144, section 10.11: the fields of a fault record. -/
def FaultRecord.layout (r : FaultRecord) : List Byte :=
  littleEndian 2 r.number.toNat ++ littleEndian 4 r.uptime.toNat
    ++ [BitVec.ofNat 8 r.channel.val, tripKindCode r.kind, stateCode r.stateAtTrip, actionCode r.action]
    ++ littleEndian 1 r.retryCount ++ littleEndian 2 r.output ++ littleEndian 2 r.target ++ littleEndian 2 r.temperature
    ++ littleEndian 1 r.band.val ++ littleEndian 4 r.generation.toNat
    ++ match r.snapshot with
      | none => [0]
      | some p => 1 :: (littleEndian 2 p.cur ++ littleEndian 2 p.fwd ++ littleEndian 2 p.ref)

/-! ## One channel -/

/-- All that the part holds about one channel: its Channel Controller, its Drive Stage, its tallies, the records of its three
points, and its ramp-entry uptime and snapshot marks in the Fault Log. -/
structure ChanView where
  chan : Channel
  drive : DriveStage
  tallies : Tallies
  points : PerChanPoint PointRecord
  rampEntry : Option W32
  marks : PerChanPoint Bool
deriving DecidableEq, Repr

/-- What the part holds about channel `n`. -/
def State.view (s : State) (n : Chan) : ChanView where
  chan := s.channels.get n
  drive := s.drive.get n
  tallies := s.scanner.tallies.get n
  points := s.seq.records.chans.get n
  rampEntry := s.log.rampEntry.get n
  marks := s.log.marks.get n

/-- A channel's part of an entry into a state: R4 to R27 for the timers and the set, R53 for the drive order, R74 for the
tallies, R91 for the warnings, R143 for the ramp entry. `w` is the wait-reason set an entry into QUALIFYING evaluates (R7). -/
def ChanView.enters (v : ChanView) (p : ChannelProfile) (now : W32) (w : WaitSet) (st : ChState) : ChanView where
  chan := { v.chan.enter st p with wait := if st = .qualifying then w else noWait }
  drive := v.drive.orderFor st p.park
  tallies := v.tallies.onChange (sampleCounts v.chan.state v.chan.blanking) (sampleCounts st (blankingFor st p))
  points :=
    if v.chan.state = .active ∧ st ≠ .active then ⟨v.points.cur.quiet, v.points.fwd.quiet, v.points.ref.quiet⟩ else v.points
  rampEntry := if st = .ramping then some now else v.rampEntry
  marks :=
    if st = .ramping then ⟨freshMark v.points.cur now, freshMark v.points.fwd now, freshMark v.points.ref now⟩ else v.marks

/-- A run of entries into states, each with the cause its CHANNEL notice carries. -/
abbrev Path := List (ChState × Cause)

/-- Channel `n`, seen as `v`, after a path. -/
def State.follow (s : State) (n : Chan) (v : ChanView) (path : Path) : ChanView :=
  path.foldl (fun v e => v.enters (s.prof n) s.startup.uptime (s.waitReasons n) e.1) v

/-- R2: the CHANNEL notices of a path of channel `n` from a state, in order. -/
def pathNotices (n : Chan) (w : WaitSet) (before : ChState) : Path → List NoticeBody
  | [] => []
  | (st, cause) :: rest =>
      .channel n before st cause (if st = .qualifying then some w else none) :: pathNotices n w st rest

/-- The notices of a path of channel `n` from its present state. -/
def State.noticesOf (s : State) (n : Chan) (path : Path) : List NoticeBody :=
  pathNotices n (s.waitReasons n) (s.channels.get n).state path

/-- R156: notices posted one after another. -/
def NoticeQueue.postAll (q : NoticeQueue) (bodies : List NoticeBody) : NoticeQueue := bodies.foldl NoticeQueue.post q

/-- R7: into QUALIFYING, and on to RAMPING when the set is empty. -/
def State.qualifyPath (s : State) (n : Chan) (cause : Cause) : Path :=
  if (s.waitReasons n).isEmpty then [(.qualifying, cause), (.ramping, .ready)] else [(.qualifying, cause)]

/-- R14, R17, R30: to HELD while hold is effective, otherwise into QUALIFYING. -/
def State.wantedPath (s : State) (n : Chan) (cause : Cause) : Path :=
  if s.holdEffective n then [(.held, cause)] else s.qualifyPath n cause

/-- R14: the path that ENABLE takes a channel. -/
def State.enablePath (s : State) (n : Chan) : Path :=
  match (s.channels.get n).state with
  | .disabled => s.wantedPath n .request
  | .windingDown => [(.ramping, .request)]
  | .qualifying | .held | .ramping | .active | .tripped | .locked => []

/-- R15: the path that DISABLE takes a channel. -/
def State.disablePath (s : State) (n : Chan) : Path :=
  match (s.channels.get n).state with
  | .ramping | .active => [(.windingDown, .request)]
  | .qualifying | .held | .tripped | .locked => [(.disabled, .request)]
  | .windingDown | .disabled => []

/-- R17: the path that CLEAR takes a channel. -/
def State.clearPath (s : State) (n : Chan) : Path :=
  match (s.channels.get n).state with
  | .locked => s.wantedPath n .request
  | .tripped => s.qualifyPath n .request
  | .disabled | .qualifying | .held | .ramping | .active | .windingDown => []

/-- R4: the path of a channel whose hold becomes effective. -/
def State.holdPath (s : State) (n : Chan) : Path :=
  match (s.channels.get n).state with
  | .qualifying | .ramping | .active | .tripped => [(.held, .hold)]
  | .windingDown => [(.disabled, .hold)]
  | .locked => if (s.prof n).holdClearsLock then [(.held, .hold)] else []
  | .disabled | .held => []

/-- R5: the path of a channel whose hold ceases. -/
def State.releasePath (s : State) (n : Chan) : Path :=
  if (s.channels.get n).state = .held then s.qualifyPath n .release else []

/-- R27: the path of a running channel when the supply status becomes NOT_OK. -/
def State.supplyLostPath (s : State) (n : Chan) : Path :=
  match (s.channels.get n).state with
  | .ramping | .active => s.qualifyPath n .supply
  | .windingDown => [(.disabled, .supply)]
  | .disabled | .qualifying | .held | .tripped | .locked => []

/-- R27: the path of a channel in a state when the supply status becomes NOT_OK; with that reason in the set a running one stays
in QUALIFYING. -/
def ChState.lostPath : ChState → Path
  | .ramping | .active => [(.qualifying, .supply)]
  | .windingDown => [(.disabled, .supply)]
  | .disabled | .qualifying | .held | .tripped | .locked => []

/-- R8: the path of a channel in a state that evaluates its wait reasons. -/
def State.readyPath (s : State) (n : Chan) (st : ChState) (cause : Cause) : Path :=
  if st = .qualifying ∧ (s.waitReasons n).isEmpty = true then [(.ramping, cause)] else []

/-- R8: channel `n`, seen as `v`, after it has evaluated its wait reasons: a set that is not empty stands, an empty one leads on
to RAMPING; outside QUALIFYING nothing happens. -/
def State.evaluated (s : State) (n : Chan) (v : ChanView) (cause : Cause) : ChanView :=
  s.follow n { v with chan := { v.chan with wait := if v.chan.state = .qualifying then s.waitReasons n else v.chan.wait } }
    (s.readyPath n v.chan.state cause)

/-! ### Over-temperature trips (R19, R20, R22 to R24, R28) -/

/-- R20, R24: the action of an OT trip of a channel. -/
def ChanView.heatAction (v : ChanView) (p : ChannelProfile) : Action :=
  if v.chan.state = .windingDown then .stop
  else match p.otPolicy with
    | .report => .report
    | .retry => if v.chan.retryCount < p.retryBudget then .retry else .lock
    | .latch => .lock

/-- R22 to R24: where an action takes a channel that trips on OT. -/
def Action.heatPath : Action → Path
  | .retry => [(.tripped, .thermal)]
  | .lock => [(.locked, .thermal)]
  | .stop => [(.disabled, .thermal)]
  | .report => []

/-- R145: the trip number of channel `n` where the channels of `trips` append one record each, ascending. -/
def numberAmong (first : BitVec 16) (trips : Chan → Bool) (n : Chan) : BitVec 16 :=
  first + BitVec.ofNat 16 (allChans.filter fun m => decide (m < n) && trips m).length

/-- R19, R22: channel `n`, seen as `v`, after the OT trip of a number: its last trip number, the charged retry count, and the
path of its action. -/
def State.heated (s : State) (n : Chan) (v : ChanView) (number : BitVec 16) : ChanView :=
  let a := v.heatAction (s.prof n)
  s.follow n { v with chan := { v.chan with
    lastTrip := some number, retryCount := if a = .retry then v.chan.retryCount + 1 else v.chan.retryCount } } a.heatPath

/-- R144, R147: the record of that trip, its retry count after the charge, everything else as it stood before the action. -/
def State.heatRecord (s : State) (n : Chan) (v : ChanView) (number : BitVec 16) : FaultRecord where
  number := number
  uptime := s.startup.uptime
  channel := n
  kind := .ot
  stateAtTrip := v.chan.state
  action := v.heatAction (s.prof n)
  retryCount := if v.heatAction (s.prof n) = .retry then v.chan.retryCount + 1 else v.chan.retryCount
  output := v.drive.output
  target := s.targets.get n
  temperature := s.seq.records.temp.smoothed
  band := s.seq.band
  generation := s.store.active.generation
  snapshot :=
    if v.marks.cur ∧ v.marks.fwd ∧ v.marks.ref then
      some ⟨v.points.cur.smoothed, v.points.fwd.smoothed, v.points.ref.smoothed⟩
    else none

/-- R19 steps 6 and 7: the notices of that trip. -/
def State.heatNotices (s : State) (n : Chan) (v : ChanView) (number : BitVec 16) : List NoticeBody :=
  let a := v.heatAction (s.prof n)
  .trip number n .ot a :: pathNotices n (s.waitReasons n) v.chan.state a.heatPath

/-- R145: `new` records appended to `old` ones, the log keeping the newest 24. -/
def keptRecords (old new : List FaultRecord) : List FaultRecord := (old ++ new).drop ((old ++ new).length - 24)

/-! ### Profile replacement -/

/-- R38, R39: the target of a channel profile at a temperature and band. -/
def ChannelProfile.targetAt (p : ChannelProfile) (t16 : Int) (band : Fin 4) : Int :=
  min (max (curveBase p.curve t16 + p.trim.get band) p.floor) p.ceiling

/-- R29, R61, R77, R78: channel `n`, seen as `v`, when the profile `now` replaces `was`: its count within the budget, a parked
output at the new park code, the tallies and the re-arm flag as the settings and the scan list ask. -/
def ChanView.replaced (v : ChanView) (n : Chan) (was now : Profile) : ChanView :=
  let before := was.channels.get n
  let after := now.channels.get n
  let cleared := fun k => (before.setting k).threshold ≠ (after.setting k).threshold
    ∨ (before.setting k).confirm ≠ (after.setting k).confirm ∨ now.scanList.contains (pointNumber n k) = false
  { v with
    chan := { v.chan with retryCount := min v.chan.retryCount after.retryBudget }
    drive := if v.drive.mode = .parked then { v.drive with output := after.park } else v.drive
    tallies := ⟨if cleared .oc then 0 else v.tallies.oc, if cleared .hr then 0 else v.tallies.hr,
      if cleared .lf then 0 else v.tallies.lf,
      if cleared .lf ∨ before.lf.policy ≠ after.lf.policy then true else v.tallies.armed⟩ }

/-! ## Profiles and slots (R102, R103, R127) -/

/-- R102: the fields of a channel profile are in range. -/
structure ChannelProfile.FieldsInRange (c : ChannelProfile) : Prop where
  points : 2 ≤ c.curve.length ∧ c.curve.length ≤ 16
  breakpoints : ∀ b ∈ c.curve, -55 ≤ b.temp ∧ b.temp ≤ 150 ∧ b.code ≤ 4095
  rising : c.curve.IsChain fun a b => a.temp < b.temp
  trims : ∀ band, -512 ≤ c.trim.get band ∧ c.trim.get band ≤ 511
  codes : c.floor ≤ 4095 ∧ c.ceiling ≤ 4095 ∧ c.park ≤ 4095
  slew : 1 ≤ c.slew ∧ c.slew ≤ 255
  blanking : 1 ≤ c.blanking ∧ c.blanking ≤ 255
  retries : 1 ≤ c.retryDelay ∧ c.retryDelay ≤ 255 ∧ c.retryBudget ≤ 15
  stable : 1 ≤ c.stableTime ∧ c.stableTime ≤ 255
  trips : ∀ k, (c.setting k).threshold ≤ 1023 ∧ 1 ≤ (c.setting k).confirm ∧ (c.setting k).confirm ≤ 4
    ∧ ((c.setting k).policy = .report → k = .lf)
  heat : c.otPolicy ≠ .report

/-- R102, R103: the fields of a profile are in range. -/
structure Profile.FieldsInRange (p : Profile) : Prop where
  channels : ∀ n, (p.channels.get n).FieldsInRange
  scanList : 1 ≤ p.scanList.length ∧ p.scanList.length ≤ 16
  edges : p.supply.e1 ≤ 6000 ∧ p.supply.e2 ≤ 6000 ∧ p.supply.e3 ≤ 6000 ∧ p.supply.hyst ≤ 255
  drive : p.supply.driveMin ≤ 6000 ∧ p.supply.driveMax ≤ 6000
  thermal : -55 ≤ p.supply.thermalLimit ∧ p.supply.thermalLimit ≤ 150 ∧ 1 ≤ p.supply.thermalHyst ∧ p.supply.thermalHyst ≤ 50
  windows : ∀ q : Point,
    let least : Int := if q = .temp then -880 else 0
    let greatest : Int := if q = .temp then 2400 else if q = .supply then 6000 else 4095
    let w := p.windows.get q
    least ≤ w.high ∧ w.high ≤ greatest ∧ least ≤ w.low ∧ w.low ≤ greatest ∧ 0 ≤ w.hyst ∧ w.hyst ≤ greatest - least
      ∧ w.depth ≤ 3

/-- R127: what recall asks of a slot's pages to find it valid. -/
structure SlotPages.Sound (p : SlotPages) : Prop where
  mark : p.completionMark = true
  format : p.formatVersion = 1
  check : p.checkMatches = true
  ranges : p.content.FieldsInRange
  floorCeiling : ∀ n, (p.content.channels.get n).floor ≤ (p.content.channels.get n).ceiling
  bandEdges : p.content.supply.e1 < p.content.supply.e2 ∧ p.content.supply.e2 < p.content.supply.e3
  driveWindow : p.content.supply.driveMin + 2 * p.content.supply.hyst < p.content.supply.driveMax
  warningWindow : ∀ q, (p.content.windows.get q).low < (p.content.windows.get q).high
    ∧ (p.content.windows.get q).hyst < (p.content.windows.get q).high - (p.content.windows.get q).low

/-! ## Hold and frames -/

/-- R3 to R5, with R26: what a change of the hold inputs from `before` to `after` does to channel `n`: its path, and whether
its retry count is set to 0. -/
def State.holdChangePath (s : State) (n : Chan) (before after : Bool) : Path × Bool :=
  if !before && after then (s.holdPath n, decide ((s.channels.get n).state = .locked) && (s.prof n).holdClearsLock)
  else if before && !after then (s.releasePath n, false)
  else ([], false)

/-- What an event that reaches the channels alone leaves as it stands: the other blocks and the pins. -/
structure State.SameElsewhere (s t : State) : Prop where
  targets : t.targets = s.targets
  store : t.store = s.store
  nv : t.nv = s.nv
  startup : t.startup = s.startup
  pending : t.pending = s.pending
  scanning : t.scanner.scanning = s.scanner.scanning ∧ t.scanner.position = s.scanner.position
  rotation : t.seq.running = s.seq.running ∧ t.seq.point = s.seq.point ∧ t.seq.timer = s.seq.timer ∧ t.seq.mode = s.seq.mode
  conditions : t.seq.supplyOk = s.seq.supplyOk ∧ t.seq.band = s.seq.band ∧ t.seq.overTemp = s.seq.overTemp
  records : t.seq.records.temp = s.seq.records.temp ∧ t.seq.records.supply = s.seq.records.supply
  lines : t.link = s.link ∧ t.pins = s.pins

/-- The Fault Log's records and its next trip number are as they were. -/
def State.SameLog (s t : State) : Prop := t.log.records = s.log.records ∧ t.log.next = s.log.next

/-- Channel `n` alone has moved, along a path from the view `v`, with the notices of that path; the rest of the part is as in
`s`. -/
structure State.MovesOnly (s t : State) (n : Chan) (v : ChanView) (path : Path) : Prop where
  moved : t.view n = s.follow n v path
  others : ∀ m, m ≠ n → t.view m = s.view m
  told : t.notices = s.notices.postAll (s.noticesOf n path)
  elsewhere : s.SameElsewhere t
  log : s.SameLog t

/-! ## Invariants -/

/-- R155, R156, R160: the Notice Queue holds at most 16 notices with consecutive sequence numbers up to the next one, at most
4 of them SENT and those the oldest; the START term is present; the acknowledgement timer runs only over SENT notices. -/
structure NoticeQueue.Ok (q : NoticeQueue) : Prop where
  bounded : q.queue.length ≤ 16
  consecutive : q.queue.IsChain fun a b => b.seq = a.seq + 1
  newest : ∀ n, q.queue.getLast? = some n → q.nextSeq = n.seq + 1
  window : (q.queue.filter (·.sent)).length ≤ 4
  oldestSent : q.queue.IsChain fun a b => b.sent = true → a.sent = true
  counts : ∀ n ∈ q.queue, n.lostAfter ≤ 255
  startTerm : q.mask.getLsbD 0 = true
  timer : q.ack ≠ .stopped → q.queue.any (·.sent) = true

/-- R144, R145: the Fault Log holds at most 24 records with consecutive trip numbers up to the next one, each of a trip that a
channel carried out. -/
structure FaultLog.Ok (l : FaultLog) : Prop where
  bounded : l.records.length ≤ 24
  consecutive : l.records.IsChain fun a b => b.number = a.number + 1
  newest : ∀ r, l.records.getLast? = some r → l.next = r.number + 1
  carriedOut : ∀ r ∈ l.records, r.stateAtTrip.takesTrips = true

/-- R167, R173, R177: the request queue holds at most two EXECUTE and four OVERRUN entries, the head alone has been served, and
a reply on the line is the head's unless a link reset removed its entry. -/
structure Link.QueueOk (l : Link) : Prop where
  execute : countMark .execute l.queue ≤ 2
  overrun : countMark .overrun l.queue ≤ 4
  headServed : ∀ e, l.queue.head? = some e → e.reply.isSome = true
  tailWaits : ∀ e ∈ l.queue.tail, e.reply = none
  onLine : ∀ r, l.tx = .reply r true → l.readyReply = some r

/-- R167, R168, R170: a partial frame and the gap timer exist exactly in COLLECT, and a partial frame is shorter than the frame
its length byte announces. -/
structure Link.ReceiverOk (l : Link) : Prop where
  outside : l.phase ≠ .collect → l.collected = [] ∧ l.gap = .stopped
  inside : l.phase = .collect → l.gap ≠ .stopped
  announced : ∀ len rest, l.collected = len :: rest → 3 ≤ len.toNat ∧ len.toNat ≤ 120 ∧ l.collected.length < frameSize len

/-- R106, R180, R184, R186: while the session is CLOSED the level is OBSERVE; an edit is open only in an OPEN session at
CALIBRATE, and its idle timer runs exactly then; the lockout runs exactly while three failures are counted. -/
structure State.SessionOk (s : State) : Prop where
  closed : s.link.opened = false → s.link.level = .observe
  edit : s.store.staged.isSome = true → s.link.opened = true ∧ s.link.level = .calibrate
  idle : s.store.staged.isSome = true ↔ s.store.idle ≠ .stopped
  failures : s.link.failures ≤ 3
  lockout : s.link.failures = 3 ↔ s.link.lockout ≠ .stopped

/-- R1, R33, R52, R67, R83, R106, R128, R143, R155: from the start of a full reset until the end of recall every block but the
link, the slot pages and the Start-Up Controller holds its values after a full reset, and the session is CLOSED. R188, R189: in
RESET_HELD no request is held and the transmitter is IDLE; after it the supply stands above the threshold. -/
structure State.HeldUntilRecall (s : State) : Prop where
  channels : s.startup.phase ≠ .running → s.channels = Quad.const channelAtReset
  targets : s.startup.phase ≠ .running → s.targets = Quad.const 0
  drive : s.startup.phase ≠ .running → s.drive = Quad.const driveAtReset
  scanner : s.startup.phase ≠ .running → s.scanner = scannerAtReset
  seq : s.startup.phase ≠ .running → s.seq = sequencerAtReset
  store : s.startup.phase ≠ .running → s.store = storeAtReset
  nv : s.startup.phase ≠ .running → s.nv = nvAtReset s.nv.pagesA s.nv.pagesB
  log : s.startup.phase ≠ .running → s.log = logAtReset
  notices : s.startup.phase ≠ .running → s.notices = noticesAtReset
  session : s.startup.phase ≠ .running → s.link.opened = false ∧ s.link.resetPending = false
  still : s.startup.phase = .resetHeld → s.link.queue = [] ∧ s.link.tx = .idle
  powered : s.startup.phase ≠ .resetHeld → s.pins.supplyGood = true

/-- R1, R6, R12: the wait-reason set is empty outside QUALIFYING, and each timer of a channel stands in the one state it
belongs to. -/
structure Channel.Ok (c : Channel) : Prop where
  wait : c.state ≠ .qualifying → c.wait = noWait
  blanking : c.blanking ≠ .stopped ↔ c.state = .ramping
  retry : c.retry ≠ .stopped ↔ c.state = .tripped
  stable : c.stable ≠ .stopped → c.state = .active

/-- R53: the mode of the Drive Stage of a channel in a state, once recall has completed. -/
def ChState.driveMode : ChState → DriveMode
  | .ramping | .active => .track
  | .windingDown => .wind
  | .disabled | .qualifying | .held | .tripped | .locked => .parked

/-- R53, R58: a Drive Stage of a channel in state `st` with park code `park`. -/
structure DriveStage.Ok (d : DriveStage) (st : ChState) (park : Nat) : Prop where
  mode : d.mode = st.driveMode
  tick : d.tick ≠ .stopped ↔ d.mode = .track ∨ d.mode = .wind
  parked : d.mode = .parked → d.output = park

/-- Each channel's own state is in order, and so is its Drive Stage while the part runs. -/
structure State.ChannelsOk (s : State) : Prop where
  channel : ∀ n, (s.channels.get n).Ok
  drive : s.startup.phase = .running → ∀ n, (s.drive.get n).Ok (s.channels.get n).state (s.prof n).park

/-- R102, R103, R120: a profile whose fields are in range and which passes the commit checks that need no channel. -/
structure Profile.Good (p : Profile) : Prop where
  ranges : p.inRange = true
  floorCeiling : failsFloorCeiling p = none
  bandEdges : failsBandEdges p = none
  driveWindow : failsDriveWindow p = none
  warningWindow : failsWarningWindow p = none

/-- R127, R128, R129, R130, R131: a slot known as valid holds such an image under its generation, one known as invalid is
reported with generation 0, and an operation in flight writes the slot to write, which is invalid, page by page. -/
structure NvStore.Ok (v : NvStore) : Prop where
  valid : ∀ n, (v.status n).valid = true → (v.pages n).valid = true ∧ (v.pages n).generation = (v.status n).generation
  invalid : ∀ n, (v.status n).valid = false → (v.status n).generation = 0
  target : ∀ o, v.op = some o → o.target = slotToWrite v.statusA v.statusB ∧ (v.status o.target).valid = false
  page : ∀ o, v.op = some o → o.page = v.pagesWritten + 1 ∧ o.page ≤ 9 ∧ o.write ≠ .stopped
  header : ∀ o, v.op = some o → o.page = 9 → (v.pages o.target).content = o.snapshot
  snapshot : ∀ o, v.op = some o → o.snapshot.Good
  pagesWritten : v.pagesWritten ≤ 9

/-- R104, R120, R132: the active profile passes every commit check that needs no channel, a staged copy is in range, the
slots are in order, and no slot and no snapshot is of a later generation than the active profile. -/
structure State.ProfilesOk (s : State) : Prop where
  active : s.store.active.Good
  staged : ∀ p, s.store.staged = some p → p.inRange = true
  nv : s.nv.Ok
  slots : ∀ n, (s.nv.status n).generation.toNat ≤ s.store.active.generation.toNat
  flight : ∀ o, s.nv.op = some o → o.snapshot.generation.toNat ≤ s.store.active.generation.toNat
    ∧ ∀ n, (s.nv.status n).generation.toNat ≤ o.snapshot.generation.toNat

/-- R27, R28, R29: a channel is RAMPING, ACTIVE or WINDING_DOWN only while the supply status is OK, a temperature is valid and
the over-temperature condition is clear, and running only while it is usable and covered. -/
structure State.RunsSafely (s : State) : Prop where
  conditions : ∀ n, (s.channels.get n).state.takesTrips = true →
    s.seq.supplyOk = true ∧ s.tempValid = true ∧ s.seq.overTemp = false
  profile : ∀ n, (s.channels.get n).state.isRunning = true →
    (s.prof n).usable = true ∧ covered s.store.active.scanList n = true

/-- R26: a retry count never exceeds the budget; R39: once recall has completed, targets lie between floor and ceiling. -/
structure State.BoundsOk (s : State) : Prop where
  retryCount : ∀ n, (s.channels.get n).retryCount ≤ (s.prof n).retryBudget
  targets : s.startup.phase = .running → ∀ n, (s.prof n).floor ≤ s.targets.get n ∧ s.targets.get n ≤ (s.prof n).ceiling

/-- R67, R70, R72, R74, R75, R76: a tally is below its point's confirm count and 0 for an absent point and for one whose samples
are discarded; a re-arm flag is clear only for a listed LF point of policy REPORT whose samples count; the position is in the
list. -/
structure State.ScanOk (s : State) : Prop where
  position : s.scanner.position < s.store.active.scanList.length
  below : ∀ n k, (s.scanner.tallies.get n).get k < ((s.prof n).setting k).confirm
  absent : ∀ n k, s.store.active.scanList.contains (pointNumber n k) = false → (s.scanner.tallies.get n).get k = 0
  discarded : ∀ n k, sampleCounts (s.channels.get n).state (s.channels.get n).blanking k = false →
    (s.scanner.tallies.get n).get k = 0
  flag : ∀ n, (s.scanner.tallies.get n).armed = false → (s.prof n).lf.policy = .report
    ∧ s.store.active.scanList.contains (pointNumber n .lf) = true
    ∧ sampleCounts (s.channels.get n).state (s.channels.get n).blanking .lf = true

/-- A state that is in order in every block. -/
structure State.Ok (s : State) : Prop where
  notices : s.notices.Ok
  log : s.log.Ok
  queue : s.link.QueueOk
  receiver : s.link.ReceiverOk
  session : s.SessionOk
  held : s.HeldUntilRecall
  channels : s.ChannelsOk
  profiles : s.ProfilesOk
  safe : s.RunsSafely
  bounds : s.BoundsOk
  scan : s.ScanOk

end Sys2Proof.Machine
end

