-- ==== Sys2Proof/Certificates/Slice0/Obligations.lean ====
section
/-! DEFINITION. The statements for the provers, by the chapters of spec/. An event's next state is written as the state its
rule leaves, followed by `State.settle`, the transmitter's choice that R177 places after every event carried out in full;
`Obligations.TransmitterChoosesAReplyThenANotice` says what that choice is. A request's next state is written with
`State.answered`, which changes the link and the RXD level alone. Where a command is a timer's expiry, its statement starts from
`s.elapse left`: that the milliseconds left to the expiry pass first is the model's choice (log 4). -/

open Sys2Proof Sys2Proof.Machine

/-! ## The step -/

/-- The command at the front of the queue is carried out on the state with the rest of the queue. -/
def Obligations.StepCarriesOutTheFrontCommand : Prop :=
  ∀ (s : State) (c : Instr) (rest : List Instr), s.pending = c :: rest → step s = exec c { s with pending := rest }

/-- The model's choice (log 3): on an empty queue one millisecond passes. Each running timer comes 1 ms nearer its expiry, one
at 0 staying due (log 4) and a stopped one stopped, the uptime rises by 1 but in RESET_HELD (R188), and nothing else changes. -/
def Obligations.AnEmptyQueueLetsAMillisecondPass : Prop :=
  ∀ s : State, s.pending = [] →
    let passed : Timer → Timer := fun t => match t with
      | .stopped => .stopped
      | .running left => .running (left - 1)
    let blanked : BlankTimer → BlankTimer := fun t => match t with
      | .stopped => .stopped
      | .running left => .running (left - 1)
      | .expired => .expired
    ∃ t : State, step s = .next t
      ∧ t.startup = { s.startup with
          uptime := if s.startup.phase = .resetHeld then s.startup.uptime else s.startup.uptime + 1 }
      ∧ (∀ n, t.channels.get n = { s.channels.get n with
            retry := passed (s.channels.get n).retry
            stable := passed (s.channels.get n).stable
            blanking := blanked (s.channels.get n).blanking }
          ∧ t.drive.get n = { s.drive.get n with tick := passed (s.drive.get n).tick })
      ∧ t.seq = { s.seq with timer := passed s.seq.timer }
      ∧ t.store = { s.store with idle := passed s.store.idle }
      ∧ t.notices = { s.notices with ack := passed s.notices.ack }
      ∧ t.link = { s.link with
          gap := passed s.link.gap, lowLine := passed s.link.lowLine, lockout := passed s.link.lockout }
      ∧ t.nv = { s.nv with op := s.nv.op.map fun o => { o with write := passed o.write } }
      ∧ t.targets = s.targets ∧ t.scanner = s.scanner ∧ t.log = s.log ∧ t.pins = s.pins ∧ t.pending = []

/-- The model's choice (log 6): every command is carried out in every state, an event that cannot occur there without effect:
none ends in a fault or a refusal, and none touches the queue of waiting commands. -/
def Obligations.EveryCommandEndsInANextState : Prop :=
  ∀ (i : Instr) (s : State), ∃ t : State, exec i s = .next t ∧ t.pending = s.pending

/-! ## The message link (chapter 10) -/

/-- R174 steps 1 to 6, with R173, R175, R176: how a request that is served as it arrives is judged, in order. A replay and a
request turned away change nothing but the link; a BUSY reply before the end of recall does not enter the cache. The codes,
levels and lengths are those of the index of section 10.10. That the command of a request is the arrival of its frame is the
model's choice (logs 1 and 2). -/
def Obligations.RequestsAreJudgedInOrder : Prop :=
  (∀ (s : State) (i : Instr) (code tag : Byte) (payload : List Byte), s.ServesAtOnce → IsRequest i code tag payload →
    let answered := fun reply => exec i s = .next { s with
      pins := { s.pins with rxdLow := false }
      link := s.link.answered code tag payload reply false }
    (∀ c : CachedReply, s.link.replayFor code tag = some c → answered c.payload)
    ∧ (s.link.replayFor code tag = none → s.startup.phase ≠ .running →
      exec i s = .next { s with
        pins := { s.pins with rxdLow := false }
        link := { s.link.answered code tag payload [6] false with
          queue := [⟨code, tag, payload, .execute, some ⟨code, tag, [6], false, false⟩⟩]
          tx := if s.link.tx = .idle then .reply ⟨code, tag, [6], false, false⟩ true else s.link.tx
          cache := s.link.cache } })
    ∧ (s.link.replayFor code tag = none → s.startup.phase = .running →
      ((∀ row ∈ requestIndex, row.code ≠ code) → answered [2])
      ∧ (∀ row ∈ requestIndex, row.code = code →
        (s.link.opened = false → row.level ≠ none → answered [8])
        ∧ ((s.link.opened = true ∨ row.level = none) → (∃ level, row.level = some level ∧ s.link.level.code < level.code) →
          answered [7])
        ∧ ((s.link.opened = true ∨ row.level = none) → (∀ level, row.level = some level → level.code ≤ s.link.level.code) →
          payload.length ≠ row.length payload → answered [3]))))
  ∧ (∀ (l : Link) (code tag : Byte) (c : CachedReply),
    l.replayFor code tag = some c ↔ l.cache = some c ∧ c.code = code ∧ c.tag = tag)
  ∧ (∀ r : RequestName, ∃ row ∈ requestIndex, row.name = r)
  ∧ (∀ row ∈ requestIndex, row.name.code = row.code ∧ requestOfCode row.code = some row.name
    ∧ row.name.servedClosed = row.level.isNone ∧ row.name.level = row.level.getD .observe
    ∧ ∀ payload, row.name.lengthOk payload = decide (payload.length = row.length payload))

/-- R173: a request that arrives while another is in service is placed as EXECUTE, else as OVERRUN, else discarded, unexamined;
nothing else changes but the receiver. That the rows of the requests, OVERRUN among them, are the arrival of a request is the
model's choice (logs 1 and 2). -/
def Obligations.RequestsBehindAnotherAreQueued : Prop :=
  ∀ (s : State) (i : Instr) (code tag : Byte) (payload : List Byte),
    (i = .unknownRequest code tag payload ∨ i = .overrun code tag payload
      ∨ ∃ r : RequestName, r.code = code ∧ i = requestCommand r tag payload) →
    s.takesBytes = true → (∃ e rest, s.link.queue = e :: rest ∧ e.reply.isSome = true) → s.link.tx ≠ .idle →
    exec i s = .next { s with
      pins := { s.pins with rxdLow := false }
      link := { s.link with
        phase := .hunt
        collected := []
        gap := .stopped
        lowLine := .stopped
        queue :=
          if (s.link.queue.filter fun e => decide (e.mark = .execute)).length < 2 then
            s.link.queue ++ [⟨code, tag, payload, .execute, none⟩]
          else if (s.link.queue.filter fun e => decide (e.mark = .overrun)).length < 4 then
            s.link.queue ++ [⟨code, tag, payload, .overrun, none⟩]
          else s.link.queue } }

/-- R160, R173, R175, R177: the end of a frame. A reply frame's entry leaves; an OVERRUN entry behind it is answered OVERRUN
without being examined, and that reply does not enter the cache; with no entry behind it, or for a reply whose entry a link
reset removed (R172), the transmitter chooses. A notice frame's end starts the acknowledgement timer while a notice is SENT. -/
def Obligations.FrameEndsFreeTheTransmitter : Prop :=
  ∀ s : State,
    (∀ (r : Reply) (done : Entry), r.resets = false → s.link.tx = .reply r true → s.link.queue = [done] →
      exec .replyFrameEnd s = .next ({ s with link := { s.link with tx := .idle, queue := [] } } : State).settle)
    ∧ (∀ (r : Reply) (done e : Entry) (more : List Entry), r.resets = false → s.link.tx = .reply r true →
      s.link.queue = done :: e :: more → e.mark = .overrun → e.reply = none →
      exec .replyFrameEnd s = .next { s with link := { s.link with
        queue := { e with reply := some ⟨e.code, e.tag, [13], false, false⟩ } :: more
        tx := .reply ⟨e.code, e.tag, [13], false, false⟩ true } })
    ∧ (∀ r : Reply, r.resets = false → s.link.tx = .reply r false →
      exec .replyFrameEnd s = .next ({ s with link := { s.link with tx := .idle } } : State).settle)
    ∧ (∀ m : Notice, s.link.tx = .notice m →
      exec .noticeFrameEnd s = .next ({ s with
        notices := if ∃ n ∈ s.notices.queue, n.sent = true then { s.notices with ack := .running 250 } else s.notices
        link := { s.link with tx := .idle } } : State).settle)

/-- R173, R174, R177: a request of any code that waited behind another is served at the end of that one's reply frame exactly as
if it had arrived then at an empty queue and an IDLE transmitter; the entries behind it stay, and so does what the receiver
holds of a frame that has begun. That the command of a request is the arrival of its frame is the model's choice (logs 1 and
2). -/
def Obligations.AQueuedRequestIsServedAsOnArrival : Prop :=
  ∀ (s : State) (r : Reply) (done e : Entry) (more : List Entry) (i : Instr), s.startup.phase ≠ .resetHeld →
    s.link.tx = .reply r true → r.resets = false → s.link.queue = done :: e :: more → e.mark = .execute → e.reply = none →
    IsRequest i e.code e.tag e.payload →
    ∃ t : State, exec i s.atRest = .next t
      ∧ exec .replyFrameEnd s = .next { t with
        pins := { t.pins with rxdLow := s.pins.rxdLow }
        link := { t.link with
          phase := s.link.phase
          collected := s.link.collected
          gap := s.link.gap
          lowLine := s.link.lowLine
          queue := t.link.queue ++ more } }

/-- R159, R176, R177: the choice of an idle transmitter: a ready reply, which then enters the cache if it is one that does;
else, in an OPEN session with fewer than four notices SENT, the oldest UNSENT notice, which becomes SENT; else none. A
transmitter that is sending goes on. R164, R166: the bytes on TXD of what it sends: a reply is a frame of class 2, a notice one
of class 3 with its kind code, its sequence number, and lost_after before its body. -/
def Obligations.TransmitterChoosesAReplyThenANotice : Prop :=
  (∀ (r : Reply) (held : Bool), (TxFrame.reply r held).bytes = wireFrame 2 r.code r.tag r.payload)
  ∧ (∀ n : Notice, (TxFrame.notice n).bytes
    = wireFrame 3 n.body.layout.1 n.seq (BitVec.ofNat 8 n.lostAfter :: n.body.layout.2))
  ∧ TxFrame.idle.bytes = []
  ∧ ∀ s : State,
    (s.link.tx ≠ .idle → s.settle = s)
    ∧ (∀ (e : Entry) (rest : List Entry) (r : Reply), s.link.tx = .idle → s.link.queue = e :: rest → e.reply = some r →
      s.settle = { s with link := { s.link with
        tx := .reply r true
        cache := if r.cached then some ⟨r.code, r.tag, r.payload⟩ else s.link.cache } })
    ∧ ((s.link.queue = [] ∨ ∃ e rest, s.link.queue = e :: rest ∧ e.reply = none) → s.link.tx = .idle →
      (∀ (sent waiting : List Notice) (n : Notice), s.link.opened = true → s.notices.queue = sent ++ n :: waiting →
        (∀ m ∈ sent, m.sent = true) → (∀ m ∈ n :: waiting, m.sent = false) → sent.length < 4 →
        s.settle = { s with
          notices := { s.notices with queue := sent ++ { n with sent := true } :: waiting }
          link := { s.link with tx := .notice { n with sent := true } } })
      ∧ ((s.link.opened = false ∨ 4 ≤ (s.notices.queue.filter (·.sent)).length
          ∨ ∀ m ∈ s.notices.queue, m.sent = true) → s.settle = s))

/-- R108, R160, R170, R187: what the expiries of the link's and the edit session's timers do. The model's choices: each happens
when its time has passed (log 4), and an event of a timer that is stopped changes nothing (log 6). -/
def Obligations.LinkAndEditTimersExpire : Prop :=
  ∀ (s : State) (left : Nat),
    (s.notices.ack = .running left → exec .acknowledgementTimerExpiry s = .next ({ s.elapse left with
      notices := { s.notices with queue := s.notices.queue.map fun n => { n with sent := false }, ack := .stopped } }
      : State).settle)
    ∧ (s.link.lockout = .running left → exec .lockoutTimerExpiry s = .next { s.elapse left with
      link := { (s.elapse left).link with failures := 0, lockout := .stopped } })
    ∧ (s.store.idle = .running left → s.store.staged.isSome = true →
      exec .editIdleTimerExpiry s = .next ({ s.elapse left with
        store := { s.store with staged := none, idle := .stopped }
        notices := (s.elapse left).notices.post (.editClosed .timeout) } : State).settle)
    ∧ (s.link.gap = .running left → exec .gapTimerExpiry s = .next { s.elapse left with
      link := { (s.elapse left).link with phase := .hunt, collected := [], gap := .stopped } })
    ∧ (s.notices.ack = .stopped → exec .acknowledgementTimerExpiry s = .next s)
    ∧ (s.link.lockout = .stopped → exec .lockoutTimerExpiry s = .next s)
    ∧ (s.store.idle = .stopped → exec .editIdleTimerExpiry s = .next s)
    ∧ (s.link.gap = .stopped → exec .gapTimerExpiry s = .next s)

/-- R166, R169: the last check byte of a frame. A frame of class 1 whose check matches hands its request on, and the outcome is
that of the request's own row, for a code of the index and for any other; a frame whose check differs or whose class is not 1
is discarded, and nothing but the receiver and its line changes. That a request's row is the arrival of its frame is the model's
choice (log 1), and that BYTE_RECEIVED of the last byte does what FRAME_RECEIVED does is read from R168 and R169 (log 19). -/
def Obligations.AWholeFrameIsHandedOnOrDiscarded : Prop :=
  ∀ (s : State) (last : Byte), s.takesBytes = true → s.link.phase = .collect →
    (∀ (code tag : Byte) (payload : List Byte), payload.length ≤ 117 →
      0xD3#8 :: (s.link.collected ++ [last]) = wireFrame 1 code tag payload →
      ∃ t : State, exec (.frameReceived last) s = .next t ∧ exec (.byteReceived last) s = .next t
        ∧ exec (.unknownRequest code tag payload) s = .next t
        ∧ ∀ r : RequestName, r.code = code → exec (requestCommand r tag payload) s = .next t)
    ∧ (∀ (len cls : Byte) (rest : List Byte), s.link.collected = len :: cls :: rest →
      s.link.collected.length + 1 = len.toNat + 3 → 3 ≤ len.toNat →
      (cls ≠ 1 ∨ (len :: cls :: rest ++ [last]).drop (len.toNat + 1)
        ≠ littleEndian 2 (checkOf ((len :: cls :: rest).take (len.toNat + 1))).toNat) →
      ∃ t : State, exec (.frameReceived last) s = .next t ∧ exec (.byteReceived last) s = .next t
        ∧ t = { s with
          pins := { s.pins with rxdLow := false }
          link := { s.link with phase := .hunt, collected := [], gap := .stopped, lowLine := .stopped } })

/-- R166, R168, R169: the characters of a request's frame, received one by one in HUNT, leave the part in the very state that
the row of the request leaves. That the row is the arrival of the whole frame is the model's choice (log 1), and that
BYTE_RECEIVED of the last byte completes the frame is read from R168 and R169 (log 19). -/
def Obligations.FrameBytesCarryTheirRequest : Prop :=
  ∀ (s : State) (r : RequestName) (tag : Byte) (payload : List Byte), s.takesBytes = true → s.link.phase = .hunt →
    payload.length ≤ 117 →
    ∃ t : State, receiveBytes s (wireFrame 1 r.code tag payload) = .next t ∧ exec (requestCommand r tag payload) s = .next t

/-- R168, R170: how the receiver takes a byte that completes no frame, and a framing error: in COLLECT it discards the partial
frame, in HUNT it is ignored, and the low-line timer runs from it on (log 8). R167, R171: in RESET_HELD and in BREAK no
character, frame or request is taken (logs 1, 2 and 6). -/
def Obligations.TheReceiverHuntsAndCollects : Prop :=
  ∀ (s : State) (b : Byte),
    ((s.startup.phase = .resetHeld ∨ s.link.phase = .inBreak) →
      exec (.byteReceived b) s = .next s ∧ exec (.frameReceived b) s = .next s ∧ exec .framingError s = .next s
      ∧ ∀ (i : Instr) (code tag : Byte) (payload : List Byte), IsRequest i code tag payload → exec i s = .next s)
    ∧ (s.startup.phase ≠ .resetHeld →
    (s.link.phase = .hunt → b ≠ 0xD3#8 → exec (.byteReceived b) s = .next { s with
      pins := { s.pins with rxdLow := false }
      link := { s.link with collected := [], gap := .stopped, lowLine := .stopped } })
    ∧ (s.link.phase = .hunt → b = 0xD3#8 → exec (.byteReceived b) s = .next { s with
      pins := { s.pins with rxdLow := false }
      link := { s.link with phase := .collect, collected := [], gap := .running 10, lowLine := .stopped } })
    ∧ (s.link.phase = .collect → s.link.collected = [] → 3 ≤ b.toNat → b.toNat ≤ 120 →
      exec (.byteReceived b) s = .next { s with
        pins := { s.pins with rxdLow := false }
        link := { s.link with collected := [b], gap := .running 10, lowLine := .stopped } })
    ∧ (s.link.phase = .collect → s.link.collected = [] → b = 0xD3#8 → exec (.byteReceived b) s = .next { s with
      pins := { s.pins with rxdLow := false }
      link := { s.link with gap := .running 10, lowLine := .stopped } })
    ∧ (s.link.phase = .collect → s.link.collected = [] → (b.toNat < 3 ∨ 120 < b.toNat) → b ≠ 0xD3#8 →
      exec (.byteReceived b) s = .next { s with
        pins := { s.pins with rxdLow := false }
        link := { s.link with phase := .hunt, gap := .stopped, lowLine := .stopped } })
    ∧ (∀ len rest, s.link.phase = .collect → s.link.collected = len :: rest →
      s.link.collected.length + 1 < len.toNat + 3 → exec (.byteReceived b) s = .next { s with
        pins := { s.pins with rxdLow := false }
        link := { s.link with collected := s.link.collected ++ [b], gap := .running 10, lowLine := .stopped } })
    ∧ (s.link.phase = .collect → exec .framingError s = .next { s with
        pins := { s.pins with rxdLow := true }
        link := { s.link with
          phase := .hunt
          collected := []
          gap := .stopped
          lowLine := if s.link.lowLine = .stopped then .running 20 else s.link.lowLine } })
    ∧ (s.link.phase = .hunt → exec .framingError s = .next { s with
        pins := { s.pins with rxdLow := true }
        link := { s.link with lowLine := if s.link.lowLine = .stopped then .running 20 else s.link.lowLine } }))

/-- R171, R172: a break is a link reset once the line has been low for 20 ms; where it removes an executed RESET_PART whose
reply frame had not begun, it begins the full reset of R191 instead. The end of a break returns the receiver to HUNT. That the
command includes the fall of the line (log 8), what the receiver is after that full reset (log 9), and the active profile (log
10) and slot status (log 11) it leaves, is the model's choice. In RESET_HELD the receiver takes nothing and the levels are
noted. -/
def Obligations.ABreakIsALinkReset : Prop :=
  ∀ s : State,
    (s.startup.phase = .resetHeld →
      exec .lineBreak s = .next { s with pins := { s.pins with rxdLow := true } })
    ∧ (s.startup.phase ≠ .resetHeld →
    (s.link.phase ≠ .inBreak →
      ((∃ r, s.link.tx = .reply r true) ∨ ∀ e rest r, s.link.queue = e :: rest → e.reply = some r → r.resets = false) →
      ∃ left, left = (match s.link.lowLine with | .stopped => 20 | .running ms => ms)
        ∧ exec .lineBreak s = .next { s.elapse left with
          pins := { s.pins with rxdLow := true }
          store := if s.store.staged.isSome then { s.store with staged := none, idle := .stopped } else (s.elapse left).store
          notices := NoticeQueue.unsend
            (if s.store.staged.isSome then (s.elapse left).notices.post (.editClosed .linkReset) else (s.elapse left).notices)
          link := { (s.elapse left).link with
            phase := .inBreak
            collected := []
            gap := .stopped
            lowLine := .stopped
            queue := []
            cache := none
            tx := match s.link.tx with
              | .reply r _ => .reply r false
              | other => other
            opened := false
            level := .observe } })
    ∧ (s.link.phase ≠ .inBreak →
      (∃ e rest r, s.link.queue = e :: rest ∧ e.reply = some r ∧ r.resets = true) → (∀ r, s.link.tx ≠ .reply r true) →
      exec .lineBreak s = .next { State.reset with
        nv := nvAtReset s.nv.pagesA s.nv.pagesB
        link := { linkAtReset (lineRate s.pins) with lowLine := .running 20 }
        startup := ⟨.recalling, .request, 0⟩
        pins := { s.pins with rxdLow := true }
        pending := s.pending })
    ∧ (s.link.phase = .inBreak → exec .lineBreak s = .next s
      ∧ exec .breakEnd s = .next { s with
        pins := { s.pins with rxdLow := false }
        link := { s.link with phase := .hunt, collected := [], gap := .stopped, lowLine := .stopped } })
    ∧ (s.link.phase ≠ .inBreak → exec .breakEnd s = .next { s with
        pins := { s.pins with rxdLow := false }
        link := { s.link with lowLine := .stopped } }))

/-! ## Sessions, notices and reset (chapters 9, 11, 12) -/

/-- R181, R182: HELLO empties the cache; on an OPEN session it closes an edit and marks SENT notices UNSENT; the session is
OPEN at OBSERVE and the reply carries B4, the generation and the sequence numbers. BYE closes an edit, marks SENT notices UNSENT
and closes the session; everything else stays. -/
def Obligations.HelloAndByeSetTheSession : Prop :=
  ∀ (s : State) (tag : Byte),
    (s.Executes .hello tag [] →
      let closes := s.link.opened && s.store.staged.isSome
      let told := if closes then s.notices.post (.editClosed .level) else s.notices
      let notices := if s.link.opened then told.unsend else told
      exec (.hello tag []) s = .next (({ s with
        store := if closes then { s.store with staged := none, idle := .stopped } else s.store
        notices := notices
        link := { s.link with cache := none, opened := true, level := .observe } } : State).answered .hello tag []
          ([0, 2, 0x42, 0x34] ++ le32 s.store.active.generation
            ++ (match notices.queue with
              | [] => [0]
              | n :: _ => [1, n.seq])
            ++ [notices.nextSeq])))
    ∧ (s.Executes .bye tag [] →
      exec (.bye tag []) s = .next (({ s with
        store := if s.store.staged.isSome then { s.store with staged := none, idle := .stopped } else s.store
        notices := NoticeQueue.unsend (if s.store.staged.isSome then s.notices.post (.editClosed .bye) else s.notices)
        link := { s.link with opened := false, level := .observe } } : State).answered .bye tag [] [0]))

/-- R185, R186: SET_LEVEL: a level out of range; a lower, equal or OPERATE level, which is granted without a look at the code
and closes an edit when it is below CALIBRATE; and CALIBRATE from below, judged by lockout and code. -/
def Obligations.SetLevelGrantsOrJudges : Prop :=
  ∀ (s : State) (tag l c0 c1 c2 c3 : Byte), s.Executes .setLevel tag [l, c0, c1, c2, c3] →
    let answered := fun (t : State) (reply : List Byte) =>
      exec (.setLevel tag [l, c0, c1, c2, c3]) s = .next (t.answered .setLevel tag [l, c0, c1, c2, c3] reply)
    (2 < l.toNat → answered s [4])
    ∧ (∀ level : Level, level.code = l.toNat → (l.toNat ≤ s.link.level.code ∨ l.toNat = 1) →
      answered
        { s with
          link := { s.link with level := level }
          store := if s.store.staged.isSome ∧ l.toNat < 2 then { s.store with staged := none, idle := .stopped } else s.store
          notices := if s.store.staged.isSome ∧ l.toNat < 2 then s.notices.post (.editClosed .level) else s.notices }
        [0, l])
    ∧ (l.toNat = 2 → s.link.level.code < 2 →
      (∀ left, s.link.lockout = .running left → answered s [12])
      ∧ (s.link.lockout = .stopped → u32 c0 c1 c2 c3 = s.store.active.accessCode →
        answered { s with link := { s.link with level := .calibrate, failures := 0 } } [0, 2])
      ∧ (s.link.lockout = .stopped → u32 c0 c1 c2 c3 ≠ s.store.active.accessCode →
        answered
          { s with link := { s.link with
            failures := s.link.failures + 1
            lockout := if s.link.failures + 1 = 3 then .running 10000 else .stopped } }
          [7]))

/-- R158: SET_NOTICE_MASK takes a mask of 0..127 with the START term added. -/
def Obligations.SetNoticeMaskKeepsStart : Prop :=
  ∀ (s : State) (tag m : Byte), s.Executes .setNoticeMask tag [m] →
    (127 < m.toNat → exec (.setNoticeMask tag [m]) s = .next (s.answered .setNoticeMask tag [m] [4]))
    ∧ (m.toNat ≤ 127 → ∃ mask : BitVec 7, mask.getLsbD 0 = true ∧ (∀ k, 1 ≤ k → mask.getLsbD k = m.getLsbD k)
      ∧ exec (.setNoticeMask tag [m]) s = .next (({ s with notices := { s.notices with mask := mask } } : State).answered
        .setNoticeMask tag [m] [0, mask.setWidth 8]))

/-- R161: ACK_NOTICES removes a notice marked SENT and every older one; any other number is answered RANGE. -/
def Obligations.AckNoticesRemovesThroughASentNotice : Prop :=
  ∀ (s : State) (tag seq : Byte), s.Executes .ackNotices tag [seq] →
    (∀ (older newer : List Notice) (n : Notice), s.notices.queue = older ++ n :: newer → n.sent = true → n.seq = seq →
      (∀ m ∈ older, m.seq ≠ seq) →
      exec (.ackNotices tag [seq]) s = .next (({ s with notices := { s.notices with
        queue := newer
        ack := if ∃ m ∈ newer, m.sent = true then .running 250 else .stopped } } : State).answered .ackNotices tag [seq]
          [0, byteOf (older.length + 1), byteOf newer.length]))
    ∧ ((∀ m ∈ s.notices.queue, m.sent = true → m.seq ≠ seq) →
      exec (.ackNotices tag [seq]) s = .next (s.answered .ackNotices tag [seq] [4]))

/-- R156, R157, R163: a posted notice is discarded under the mask, dropped on a full queue and counted on the newest notice, or
queued UNSENT with the next number, upon which ATTN is asserted. R153, R154: its kind code and the bytes of its body. -/
def Obligations.PostedNoticesAreQueuedOrCounted : Prop :=
  ∀ (s : State) (body : NoticeBody),
    body.layout = (BitVec.ofNat 8 body.kind.code, body.bytes) ∧
    (s.notices.mask.getLsbD (body.kind.code - 1) = false → s.post body = s)
    ∧ (s.notices.mask.getLsbD (body.kind.code - 1) = true →
      (s.notices.queue.length < 16 →
        s.post body = { s with notices := { s.notices with
          queue := s.notices.queue ++ [⟨body, s.notices.nextSeq, 0, false⟩]
          nextSeq := s.notices.nextSeq + 1 } }
        ∧ (s.post body).attn = true)
      ∧ (∀ (older : List Notice) (newest : Notice), s.notices.queue = older ++ [newest] → 15 ≤ older.length →
        s.post body = { s with notices := { s.notices with
          queue := older ++ [{ newest with lostAfter := min 255 (newest.lostAfter + 1) }] } }))

/-- R191: RESET_PART is BUSY while a persistence operation is in flight; else it is answered OK with a reset pending, and the
end of that reply frame begins the full reset with cause REQUEST (R188), which finds RESET_HELD at its end. The active profile
(log 10) and the slot status (log 11) that the reset leaves are the model's choice. -/
def Obligations.ResetPartResetsAtItsReplysEnd : Prop :=
  (∀ (s : State) (tag : Byte), s.Executes .resetPart tag [] →
    (s.nv.op.isSome = true → exec (.resetPart tag []) s = .next (s.answered .resetPart tag [] [6]))
    ∧ (s.nv.op = none → exec (.resetPart tag []) s = .next { s with
        pins := { s.pins with rxdLow := false }
        link := { s.link.answered 0x07 tag [] [0] true with resetPending := true } }))
  ∧ (∀ (s : State) (r : Reply) (held : Bool), s.link.tx = .reply r held → r.resets = true →
    exec .replyFrameEnd s = .next { State.reset with
      nv := nvAtReset s.nv.pagesA s.nv.pagesB
      link := { linkAtReset (lineRate s.pins) with lowLine := if s.pins.rxdLow then .running 20 else .stopped }
      startup := ⟨.recalling, .request, 0⟩
      pins := s.pins
      pending := s.pending })

/-- R188, R128, R136: POWER and the RESET input begin a full reset in any phase: every block takes its values after a full
reset, the slot pages and the pins stay; a reset that passes through loss of supply has cause POWER, whatever began it; RESET_HELD
ends with the uptime at 0 in RECALLING. The model's choices: the active profile a reset leaves (log 10), the slot status and the
uptime of 0 in RESET_HELD (log 11), and that the end of RESET_HELD has no effect elsewhere (log 6). That this end finds the supply
good and RESET deasserted is read from R188 (log 7). -/
def Obligations.FullResetsBeginAndEnd : Prop :=
  ∀ s : State,
    exec .power s = .next { State.reset with
      nv := nvAtReset s.nv.pagesA s.nv.pagesB
      link := linkAtReset (lineRate s.pins)
      startup := ⟨.resetHeld, .power, 0⟩
      pins := { s.pins with supplyGood := false }
      pending := s.pending }
    ∧ exec .resetPinAsserted s = .next { State.reset with
      nv := nvAtReset s.nv.pagesA s.nv.pagesB
      link := linkAtReset (lineRate s.pins)
      startup := ⟨.resetHeld, if s.pins.supplyGood then .pin else .power, 0⟩
      pins := { s.pins with reset := true }
      pending := s.pending }
    ∧ (s.startup.phase = .resetHeld → exec .resetHeldEnd s = .next { s with
      startup := { s.startup with phase := .recalling, uptime := 0 }
      link := { s.link with lowLine := if s.pins.rxdLow then .running 20 else .stopped }
      pins := { s.pins with reset := false, supplyGood := true } })
    ∧ (s.startup.phase ≠ .resetHeld → exec .resetHeldEnd s = .next s)

/-- R190, R30, R31, R44, R53, R63, R67, R84, R127, R129, R140: the end of recall judges both slots, installs the image of the
newest valid one or the factory profile, parks the outputs, starts the scanner and the sequencer, posts START and releases the
start-enabled channels with a CHANNEL notice each. That it comes at an uptime of 1 at the earliest is read from R189 (log 24). -/
def Obligations.EndOfRecallBringsThePartUp : Prop :=
  ∀ s : State, s.HeldUntilRecall → s.startup.phase = .recalling →
    let sound := fun slot => (s.nv.pages slot).Sound
    let generation := fun slot => (s.nv.pages slot).generation
    let ms := if s.startup.uptime = 0 then 1 else 0
    ∃ (t : State) (outcome : RecallOutcome) (profile : Profile), exec .endOfRecall s = .next t.settle
      ∧ (outcome = .slotA ↔ sound .a ∧ (sound .b → (generation .b).toNat ≤ (generation .a).toNat))
      ∧ (outcome = .slotB ↔ sound .b ∧ (sound .a → (generation .a).toNat < (generation .b).toNat))
      ∧ profile = (match outcome with
        | .slotA => { (s.nv.pages .a).content with generation := generation .a }
        | .slotB => { (s.nv.pages .b).content with generation := generation .b }
        | .factory => factoryProfile)
      ∧ (∀ slot, (sound slot → t.nv.status slot = ⟨true, generation slot⟩) ∧ (¬sound slot → t.nv.status slot = ⟨false, 0⟩)
        ∧ t.nv.pages slot = s.nv.pages slot)
      ∧ t.nv.op = none ∧ t.nv.pagesWritten = 0
      ∧ t.startup = ⟨.running, s.startup.cause, if s.startup.uptime = 0 then 1 else s.startup.uptime⟩
      ∧ t.store = ⟨profile, none, .stopped⟩
      ∧ (∀ n, t.targets.get n = (profile.channels.get n).floor)
      ∧ (∀ n, t.drive.get n = ⟨(profile.channels.get n).park, .parked, .stopped⟩)
      ∧ (∀ n, s.biasOutput n = none ∧ t.biasOutput n = some (profile.channels.get n).park)
      ∧ (∀ n, s.fastOff n = false ∧ t.fastOff n = false) ∧ s.faultAsserted = false ∧ t.faultAsserted = false
      ∧ s.attn = false ∧ t.attn = true
      ∧ t.scanner = { scannerAtReset with scanning := true }
      ∧ t.seq = { sequencerAtReset with running := true, timer := .running 4 }
      ∧ (∀ n, (t.channels.get n) =
        if (profile.channels.get n).startEnabled then
          (if s.pins.hold.get n then { channelAtReset with state := .held }
            else { channelAtReset with
              state := .qualifying
              wait := ⟨true, true, false, !(profile.channels.get n).usable, !covered profile.scanList n⟩ })
        else channelAtReset)
      ∧ t.notices = (⟨[], 0, 127, .stopped⟩ : NoticeQueue).postAll (.start s.startup.cause outcome profile.generation
        :: (allChans.filter fun n => (profile.channels.get n).startEnabled).map fun n =>
          if s.pins.hold.get n then .channel n .disabled .held .start none
          else .channel n .disabled .qualifying .start
            (some ⟨true, true, false, !(profile.channels.get n).usable, !covered profile.scanList n⟩))
      ∧ t.log = logAtReset ∧ t.pins = s.pins ∧ t.pending = s.pending ∧ t.link = (s.elapse ms).link

/-! ## Channels (chapters 1 and 3) -/

/-- R13, R14, R15, R17: ENABLE, DISABLE and CLEAR take each named channel along its path, ascending, tell it, and answer DONE
for a channel that moved and NO_CHANGE (for CLEAR: NOT_APPLICABLE) for one that did not; CLEAR in LOCKED sets the retry count to
0. Channels not named and all else stay. A mask of 0 or above 15 is answered RANGE. -/
def Obligations.ChannelRequestsMoveTheNamedChannels : Prop :=
  ∀ (s : State) (r : RequestName) (path : State → Chan → Path) (idle tag m : Byte),
    ((r = .enable ∧ path = State.enablePath ∧ idle = 1) ∨ (r = .disable ∧ path = State.disablePath ∧ idle = 1)
      ∨ (r = .clear ∧ path = State.clearPath ∧ idle = 2)) →
    s.Executes r tag [m] →
    (¬(1 ≤ m.toNat ∧ m.toNat ≤ 15) → exec (requestCommand r tag [m]) s = .next (s.answered r tag [m] [4]))
    ∧ (1 ≤ m.toNat → m.toNat ≤ 15 → ∃ t : State, exec (requestCommand r tag [m]) s = .next (t.answered r tag [m]
        (0 :: m :: (allChans.filter fun n => m.getLsbD n.val).map fun n => if path s n = [] then idle else 0))
      ∧ (∀ n, t.view n =
        if m.getLsbD n.val then
          s.follow n { s.view n with chan := { s.channels.get n with
            retryCount :=
              if r = .clear ∧ (s.channels.get n).state = .locked then 0 else (s.channels.get n).retryCount } } (path s n)
        else s.view n)
      ∧ t.notices = s.notices.postAll (allChans.flatMap fun n => if m.getLsbD n.val then s.noticesOf n (path s n) else [])
      ∧ s.SameElsewhere t ∧ s.SameLog t)

/-- R18, R3 to R5: SOFT_HOLD sets the soft hold of each named channel; a channel whose hold becomes effective or ceases by it
moves as R4 or R5 says, with cause HOLD or RELEASE. -/
def Obligations.SoftHoldSetsAndActs : Prop :=
  ∀ (s : State) (tag m setting : Byte), s.Executes .softHold tag [m, setting] →
    (¬(1 ≤ m.toNat ∧ m.toNat ≤ 15 ∧ setting.toNat ≤ 1) →
      exec (.softHold tag [m, setting]) s = .next (s.answered .softHold tag [m, setting] [4]))
    ∧ (∀ on : Bool, setting = (if on then 1 else 0) → 1 ≤ m.toNat → m.toNat ≤ 15 →
      let acts := fun n => s.holdChangePath n (s.holdEffective n) (s.pins.hold.get n || on)
      ∃ t : State, exec (.softHold tag [m, setting]) s = .next (t.answered .softHold tag [m, setting]
          (0 :: m :: (allChans.filter fun n => m.getLsbD n.val).map fun n =>
            if (s.channels.get n).softHold = on then 1 else 0))
        ∧ (∀ n, t.view n =
          if m.getLsbD n.val then
            s.follow n { s.view n with chan := { s.channels.get n with
              softHold := on
              retryCount := if (acts n).2 then 0 else (s.channels.get n).retryCount } } (acts n).1
          else s.view n)
        ∧ t.notices = s.notices.postAll
          (allChans.flatMap fun n => if m.getLsbD n.val then s.noticesOf n (acts n).1 else [])
        ∧ s.SameElsewhere t ∧ s.SameLog t)

/-- R3 to R5, R26: a HOLD pin takes a level: once the part runs, a channel whose hold becomes effective or ceases by it moves as
R4 or R5 says; before that the level is only noted. That a pin told to take the level it has changes
nothing is the model's choice (log 20). -/
def Obligations.HoldPinsActOnEffectiveness : Prop :=
  ∀ (s : State) (n : Chan) (asserted : Bool),
    let noted : State := { s with pins := { s.pins with hold := s.pins.hold.set n asserted } }
    let acts := s.holdChangePath n (s.holdEffective n) (asserted || (s.channels.get n).softHold)
    (s.pins.hold.get n = asserted → exec (.holdPinChange n asserted) s = .next s)
    ∧ (s.pins.hold.get n ≠ asserted → s.startup.phase ≠ .running → exec (.holdPinChange n asserted) s = .next noted.settle)
    ∧ (s.pins.hold.get n ≠ asserted → s.startup.phase = .running → ∃ t : State, exec (.holdPinChange n asserted) s = .next t.settle
      ∧ noted.MovesOnly t n
        { s.view n with chan := { s.channels.get n with
          retryCount := if acts.2 then 0 else (s.channels.get n).retryCount } } acts.1)

/-- R9, R10, R12: blanking expires in RAMPING: it is marked expired, LF samples count from then on, and an output at its target
settles the channel to ACTIVE with cause SETTLED. The time of the expiry is the model's choice (log 4). -/
def Obligations.BlankingExpiryMarksOrSettles : Prop :=
  ∀ (s : State) (n : Chan) (left : Nat), (s.channels.get n).state = .ramping → (s.channels.get n).blanking = .running left →
    let u := s.elapse left
    let v := { u.view n with chan := { u.channels.get n with blanking := .expired } }
    ∃ t : State, exec (.blankingTimerExpiry n) s = .next t.settle
      ∧ u.MovesOnly t n v (if (s.drive.get n).output = s.targets.get n then [(.active, .settled)] else [])
      ∧ sampleCounts (t.channels.get n).state (t.channels.get n).blanking .lf = true

/-- R12, R25, R26: the stable timer's expiry sets the retry count to 0 and leaves the channel ACTIVE without a notice; the retry
timer's expiry takes a TRIPPED channel to QUALIFYING with cause RETRY_DUE, its count kept and FASTOFF deasserted. The times of
the expiries are the model's choice (log 4). -/
def Obligations.StableAndRetryTimersExpire : Prop :=
  ∀ (s : State) (n : Chan) (left : Nat),
    ((s.channels.get n).state = .active → (s.channels.get n).stable = .running left →
      exec (.stableTimerExpiry n) s = .next { s.elapse left with
        channels := (s.elapse left).channels.set n { (s.elapse left).channels.get n with retryCount := 0, stable := .stopped } })
    ∧ ((s.channels.get n).state = .tripped → (s.channels.get n).retry = .running left →
      ∃ t : State, exec (.retryTimerExpiry n) s = .next t.settle
        ∧ (s.elapse left).MovesOnly t n ((s.elapse left).view n) ((s.elapse left).qualifyPath n .retryDue)
        ∧ (t.channels.get n).retryCount = (s.channels.get n).retryCount ∧ t.fastOff n = false)

/-- R11, R55, R56: a tick in TRACK moves the output toward the target by the slew or by the distance, whichever is smaller, and
a RAMPING channel whose blanking has expired settles when the output then stands at the target. The time of the tick is the
model's choice (log 4). -/
def Obligations.TrackTicksStepTowardTheTarget : Prop :=
  ∀ (s : State) (n : Chan) (left : Nat), (s.drive.get n).mode = .track → (s.drive.get n).tick = .running left →
    let u := s.elapse left
    let out := (s.drive.get n).output
    let target := s.targets.get n
    let slew := (s.prof n).slew
    let stepped := if out ≤ target then out + min slew (target - out) else out - min slew (out - target)
    let settles := stepped = target ∧ (s.channels.get n).state = .ramping ∧ (s.channels.get n).blanking = .expired
    ∃ t : State, exec (.rampTick n) s = .next t.settle
      ∧ u.MovesOnly t n { u.view n with drive := ⟨stepped, .track, .running 1⟩ }
        (if settles then [(.active, .settled)] else [])

/-- R16, R55, R57: a tick in WIND moves the output toward the park code by the slew or by the distance; on arrival the Drive
Stage is PARKED, its tick timer stopped, and a channel in WINDING_DOWN is DISABLED with cause PARKED. The model's choices: the
time of the tick (log 4), and that a tick of a stopped timer changes nothing (log 6). -/
def Obligations.WindTicksStepTowardPark : Prop :=
  ∀ (s : State) (n : Chan),
    (∀ left, (s.drive.get n).mode = .wind → (s.drive.get n).tick = .running left →
      let u := s.elapse left
      let out := (s.drive.get n).output
      let park := (s.prof n).park
      let slew := (s.prof n).slew
      let stepped := if out ≤ park then out + min slew (park - out) else out - min slew (out - park)
      let arrives := stepped = park ∧ (s.channels.get n).state = .windingDown
      ∃ t : State, exec (.rampTick n) s = .next t.settle
        ∧ u.MovesOnly t n
          { u.view n with drive := if stepped = park then ⟨park, .parked, .stopped⟩ else ⟨stepped, .wind, .running 1⟩ }
          (if arrives then [(.disabled, .parked)] else []))
    ∧ ((s.drive.get n).tick = .stopped → exec (.rampTick n) s = .next s)

/-- R4, R9, R12, R15, R22, R27, R53, R54, R58, R74, R91, R143: what entering a state does to all that the part holds about a
channel whose Drive Stage stands in the mode of its state: the timers and the set, the drive order, the tallies and the re-arm
flag, the warning states, the ramp-entry uptime. The other statements about channels say their moves with `ChanView.enters`. -/
def Obligations.EnteringAStateStartsItsTimersAndDrive : Prop :=
  ∀ (v : ChanView) (p : ChannelProfile) (now : W32) (w : WaitSet) (st : ChState), v.drive.Ok v.chan.state p.park →
    let e := v.enters p now w st
    let blanking : BlankTimer := if st = .ramping then .running p.blanking else .stopped
    let ends := fun k => sampleCounts v.chan.state v.chan.blanking k = true ∧ sampleCounts st blanking k = false
    e.chan = { v.chan with
      state := st
      wait := if st = .qualifying then w else noWait
      blanking := blanking
      retry := if st = .tripped then .running (10 * p.retryDelay) else .stopped
      stable := if st = .active then .running (1000 * p.stableTime) else .stopped }
    ∧ (st = .ramping → v.drive.mode = .parked → e.drive = ⟨p.park, .track, .running 1⟩)
    ∧ (st = .ramping → v.drive.mode = .wind → e.drive = ⟨v.drive.output, .track, v.drive.tick⟩)
    ∧ (st = .windingDown → v.drive.mode = .track → e.drive = ⟨v.drive.output, .wind, v.drive.tick⟩)
    ∧ (st = .active → e.drive = v.drive)
    ∧ (st.driveMode = .parked → e.drive.output = p.park ∧ e.drive.mode = .parked ∧ e.drive.tick = .stopped)
    ∧ (∀ k, e.tallies.get k = if ends k then 0 else v.tallies.get k)
    ∧ (e.tallies.armed = if ends .lf then true else v.tallies.armed)
    ∧ (v.chan.state = .active ∧ st ≠ .active → e.points = ⟨{ v.points.cur with warning := .normal },
      { v.points.fwd with warning := .normal }, { v.points.ref with warning := .normal }⟩)
    ∧ (¬(v.chan.state = .active ∧ st ≠ .active) → e.points = v.points)
    ∧ (st = .ramping → e.rampEntry = some now
      ∧ ∀ k, e.marks.get k = true ↔ (v.points.get k).valid = true ∧ (v.points.get k).uptime = now)
    ∧ (st ≠ .ramping → e.rampEntry = v.rampEntry ∧ e.marks = v.marks)

/-- R19 to R24, R143 to R148: a channel takes a pending confirmation. In RAMPING, ACTIVE and WINDING_DOWN it appends the record,
carries out the action and tells it; elsewhere the confirmation is discarded. That without a pending one nothing happens is the
model's choice (log 6). -/
def Obligations.AConfirmedTripIsRecordedAndActedOn : Prop :=
  ∀ (s : State) (n : Chan) (k : TripKind),
    let c := s.channels.get n
    let taken := { c with confirmations := c.confirmations.put k false }
    let marks := s.log.marks.get n
    let points := s.seq.records.chans.get n
    let a : Action :=
      if c.state = .windingDown then .stop
      else match (s.prof n).policy k with
        | .report => .report
        | .retry => if c.retryCount < (s.prof n).retryBudget then .retry else .lock
        | .latch => .lock
    let count := if a = .retry then c.retryCount + 1 else c.retryCount
    let path : Path := match a with
      | .retry => [(.tripped, if k = .ot then .thermal else .trip)]
      | .lock => [(.locked, if k = .ot then .thermal else .trip)]
      | .stop => [(.disabled, if k = .ot then .thermal else .trip)]
      | .report => []
    ((s.startup.phase ≠ .running ∨ c.confirmations.has k = false) → exec (.confirmedTrip n k) s = .next s)
    ∧ (s.startup.phase = .running → c.confirmations.has k = true → c.state.takesTrips = false →
      exec (.confirmedTrip n k) s = .next ({ s with channels := s.channels.set n taken } : State).settle)
    ∧ (s.startup.phase = .running → c.confirmations.has k = true → c.state.takesTrips = true →
      ∃ t : State, exec (.confirmedTrip n k) s = .next t.settle
        ∧ t.log.records = (if 24 ≤ s.log.records.length then s.log.records.tail else s.log.records) ++
          [{ number := s.log.next
             uptime := s.startup.uptime
             channel := n
             kind := k
             stateAtTrip := c.state
             action := a
             retryCount := count
             output := (s.drive.get n).output
             target := s.targets.get n
             temperature := s.seq.records.temp.smoothed
             band := s.seq.band
             generation := s.store.active.generation
             snapshot := if marks.cur ∧ marks.fwd ∧ marks.ref then
               some ⟨points.cur.smoothed, points.fwd.smoothed, points.ref.smoothed⟩ else none }]
        ∧ t.log.next = s.log.next + 1
        ∧ t.view n = s.follow n
          { s.view n with chan := { taken with lastTrip := some s.log.next, retryCount := count } } path
        ∧ (∀ m, m ≠ n → t.view m = s.view m)
        ∧ t.notices = s.notices.postAll (.trip s.log.next n k a :: s.noticesOf n path)
        ∧ s.SameElsewhere t
        ∧ (t.fastOff n = true ↔ a = .retry ∨ a = .lock))

/-! ## Scanner and sequencer (chapters 4 and 5) -/

/-- R68 to R72: a scan step judges the sample of the point in the slot at the position, updates its tally and flag, hands on a
confirmation when the tally reaches the confirm count, and advances the position; no step is taken while scanning is stopped. That a
stopped scanner takes no step is R67. -/
def Obligations.AScanStepCountsOneSample : Prop :=
  ∀ (s : State) (sense : BitVec 10),
    (s.scanner.scanning = false → exec (.scanStep sense) s = .next s)
    ∧ (∀ p : PointNumber, s.scanner.scanning = true → s.store.active.scanList[s.scanner.position]? = some p →
      let n := pointChan p
      let k := pointKind p
      let t := s.scanner.tallies.get n
      let setting := (s.prof n).setting k
      let isBeyond : Bool :=
        if k = .lf then decide (sense.toNat < setting.threshold) else decide (setting.threshold < sense.toNat)
      let counted : Bool := match (s.channels.get n).state with
        | .ramping => decide (k ≠ .lf ∨ (s.channels.get n).blanking = .expired)
        | .active => true
        | .windingDown => decide (k ≠ .lf)
        | .disabled | .qualifying | .held | .tripped | .locked => false
      let stays := k = .lf ∧ t.armed = false
      let confirms := counted = true ∧ isBeyond = true ∧ ¬stays ∧ t.get k + 1 = setting.confirm
      let tallies : Tallies :=
        if counted = false then { t.set k 0 with armed := if k = .lf then true else t.armed }
        else if confirms then ⟨0, 0, 0, if k = .lf ∧ setting.policy = .report then false else t.armed⟩
        else if isBeyond = false then { t.set k 0 with armed := if k = .lf then true else t.armed }
        else if stays then t.set k 0
        else t.set k (t.get k + 1)
      let c := s.channels.get n
      exec (.scanStep sense) s = .next { s with
        scanner := { s.scanner with
          position := if s.scanner.position + 1 < s.store.active.scanList.length then s.scanner.position + 1 else 0
          tallies := s.scanner.tallies.set n tallies }
        channels := if confirms then
          s.channels.set n { c with confirmations := c.confirmations.put k.trip true } else s.channels })

/-- R84, R85, R87 to R90, R94, R95, R41: a TEMP completion: its record, warning state, the over-temperature condition and all
four targets from the curve; SUPPLY follows. The profile, the store, the link and the pins stay. The time of the completion is the
model's choice (log 4). -/
def Obligations.ATempCompletionFeedsTargetsAndCondition : Prop :=
  ∀ (s : State) (left : Nat) (value : Int), s.seq.running = true → s.seq.timer = .running left → s.seq.point = .temp →
    let u := s.elapse left
    let r := s.seq.records.temp
    let delivered := max (-880) (min value 2400)
    let smoothed :=
      if r.valid then r.smoothed + (delivered - r.smoothed).tdiv (2 ^ s.store.active.windows.temp.depth) else delivered
    let warning := nextWarning r.warning s.store.active.windows.temp smoothed
    let limit := s.store.active.supply.thermalLimit
    let hot : Bool :=
      if s.seq.overTemp then !decide (smoothed < 16 * (limit - s.store.active.supply.thermalHyst))
      else decide (16 * limit ≤ smoothed)
    ∃ t : State, exec (.conversionCompletion value) s = .next t.settle
      ∧ t.seq.records.temp = ⟨delivered, smoothed, true, warning, u.startup.uptime⟩
      ∧ t.seq.records.supply = s.seq.records.supply
      ∧ t.seq.overTemp = hot ∧ t.seq.supplyOk = s.seq.supplyOk ∧ t.seq.band = s.seq.band
      ∧ t.seq.running = true ∧ t.seq.point = .supply ∧ t.seq.timer = .running 4 ∧ t.seq.mode = s.seq.mode
      ∧ (∀ n, t.targets.get n = (evaluateCurve (s.prof n) smoothed s.seq.band).2.1)
      ∧ t.store = u.store ∧ t.nv = u.nv ∧ t.link = u.link ∧ t.pins = s.pins ∧ t.startup = u.startup
      ∧ t.pending = s.pending ∧ t.scanner.scanning = s.scanner.scanning ∧ t.scanner.position = s.scanner.position
      ∧ (hot = s.seq.overTemp → r.valid = true →
        t.channels = u.channels ∧ t.drive = u.drive ∧ t.log = s.log ∧ t.scanner = s.scanner
        ∧ t.notices = (if warning = r.warning then u.notices else u.notices.post (.warning .temp warning smoothed)))

/-- R19 to R25, R28, R8, R31, R53, R88, R95, R144, R145: what a TEMP completion does to the channels, the log, the notices and
the output lines. The condition becoming set trips every channel in RAMPING, ACTIVE or WINDING_DOWN once, ascending, each with
its record, its charge, its action and its notices; then, where the condition changed or the temperature became valid, every
channel in QUALIFYING evaluates its wait reasons, ascending. Nothing else about a channel changes. That the trips are taken
within the completion is read from R95 (log 16); its time is the model's choice (log 4). -/
def Obligations.OverTemperatureTripsTheDrivenChannels : Prop :=
  ∀ (s : State) (left : Nat) (value : Int), s.seq.running = true → s.seq.timer = .running left → s.seq.point = .temp →
    let u := s.elapse left
    let r := s.seq.records.temp
    let delivered := max (-880) (min value 2400)
    let smoothed :=
      if r.valid then r.smoothed + (delivered - r.smoothed).tdiv (2 ^ s.store.active.windows.temp.depth) else delivered
    let warning := nextWarning r.warning s.store.active.windows.temp smoothed
    let limit := s.store.active.supply.thermalLimit
    let hot : Bool :=
      if s.seq.overTemp then !decide (smoothed < 16 * (limit - s.store.active.supply.thermalHyst))
      else decide (16 * limit ≤ smoothed)
    let trips : Chan → Bool := fun n => match (s.channels.get n).state with
      | .ramping | .active | .windingDown => hot && !s.seq.overTemp
      | .disabled | .qualifying | .held | .tripped | .locked => false
    let number := numberAmong s.log.next trips
    let evaluates := r.valid = false ∨ hot ≠ s.seq.overTemp
    ∃ t : State, exec (.conversionCompletion value) s = .next t.settle
      ∧ t.seq.overTemp = hot ∧ t.seq.records.temp.smoothed = smoothed
      ∧ (∀ n, t.view n =
        if trips n then t.heated n (u.view n) (number n)
        else if evaluates then t.evaluated n (u.view n) .ready
        else u.view n)
      ∧ t.log.next = s.log.next + BitVec.ofNat 16 (allChans.filter trips).length
      ∧ (s.log.records.length ≤ 24 → t.log.records
        = keptRecords s.log.records ((allChans.filter trips).map fun n => t.heatRecord n (u.view n) (number n)))
      ∧ t.notices = u.notices.postAll ((if warning = r.warning then [] else [.warning .temp warning smoothed])
        ++ ((allChans.filter trips).flatMap fun n => t.heatNotices n (u.view n) (number n))
        ++ (allChans.flatMap fun n => if evaluates then
            pathNotices n (t.waitReasons n) .qualifying (t.readyPath n (s.channels.get n).state .ready) else []))
      ∧ (∀ n, t.fastOff n = true ↔ (t.channels.get n).state = .tripped ∨ (t.channels.get n).state = .locked)
      ∧ (t.faultAsserted = true ↔ ∃ n, (s.prof n).faultLine = true
        ∧ ((t.channels.get n).state = .tripped ∨ (t.channels.get n).state = .locked))
      ∧ (∀ n, t.biasOutput n = if (t.drive.get n).mode = .undriven then none else some (t.drive.get n).output)

/-- R42, R85, R87 to R93, R27, R8: a SUPPLY completion: its record and warning state, the band and status with hysteresis, the
targets when the band changes, the next point and mode. A change of status posts SUPPLY and reaches each channel, ascending: on
its loss RAMPING, ACTIVE and WINDING_DOWN ones are parked, and one in QUALIFYING evaluates its wait reasons; each move posts its
CHANNEL notice. Nothing else changes. The time of the completion is the model's choice (log 4). -/
def Obligations.ASupplyCompletionSetsBandAndStatus : Prop :=
  ∀ (s : State) (left : Nat) (value : Int), s.seq.running = true → s.seq.timer = .running left → s.seq.point = .supply →
    let u := s.elapse left
    let r := s.seq.records.supply
    let delivered := max 0 (min value 6000)
    let smoothed :=
      if r.valid then r.smoothed + (delivered - r.smoothed).tdiv (2 ^ s.store.active.windows.supply.depth) else delivered
    let warning := nextWarning r.warning s.store.active.windows.supply smoothed
    let band := nextBand s.seq.band s.store.active.supply smoothed
    let ok := nextSupplyOk s.seq.supplyOk s.store.active.supply smoothed
    let changes := ok ≠ s.seq.supplyOk
    ∃ t : State, exec (.conversionCompletion value) s = .next t.settle
      ∧ t.seq.records.supply = ⟨delivered, smoothed, true, warning, u.startup.uptime⟩
      ∧ t.seq.records.temp = s.seq.records.temp
      ∧ t.seq.band = band ∧ t.seq.supplyOk = ok ∧ t.seq.overTemp = s.seq.overTemp
      ∧ t.seq.running = true ∧ t.seq.point = (if ok then .chan 0 .cur else .temp)
      ∧ t.seq.mode = (if ok then .full else .restricted) ∧ t.seq.timer = .running 4
      ∧ (band = s.seq.band → t.targets = s.targets)
      ∧ (band ≠ s.seq.band → ∀ n, (t.targets.get n : Int) =
        if s.tempValid then (s.prof n).targetAt s.seq.records.temp.smoothed band else (s.prof n).floor)
      ∧ (∀ n, t.view n =
        if changes ∧ ok = false ∧ (s.channels.get n).state ≠ .qualifying then
          t.follow n (u.view n) (s.channels.get n).state.lostPath
        else if changes then t.evaluated n (u.view n) .ready
        else u.view n)
      ∧ t.notices = u.notices.postAll ((if warning = r.warning then [] else [.warning .supply warning smoothed])
        ++ (if changes then [.supply ok smoothed band] else [])
        ++ (allChans.flatMap fun n => if changes then pathNotices n (t.waitReasons n) (s.channels.get n).state
            (if ok then [] else (s.channels.get n).state.lostPath) ++
              pathNotices n (t.waitReasons n) .qualifying (t.readyPath n (s.channels.get n).state .ready)
          else []))
      ∧ s.SameLog t ∧ t.store = u.store ∧ t.nv = u.nv ∧ t.link = u.link ∧ t.pins = s.pins ∧ t.startup = u.startup
      ∧ t.scanner.scanning = s.scanner.scanning ∧ t.scanner.position = s.scanner.position ∧ t.pending = s.pending

/-- R85, R87 to R91, R143: a completion of CURn, FWDn or REFn: its record and snapshot mark, its warning state only while the
channel is ACTIVE, and the next point. Nothing else changes. The time of
the completion is the model's choice (log 4). -/
def Obligations.AChannelPointCompletionUpdatesItsRecord : Prop :=
  ∀ (s : State) (left : Nat) (value : Int) (n : Chan) (k : ChanPoint),
    s.seq.running = true → s.seq.timer = .running left → s.seq.point = .chan n k →
    let u := s.elapse left
    let r := s.seq.records.get (.chan n k)
    let win := s.store.active.windows.get (.chan n k)
    let delivered := max 0 (min value 4095)
    let smoothed := if r.valid then r.smoothed + (delivered - r.smoothed).tdiv (2 ^ win.depth) else delivered
    let warning := if (s.channels.get n).state = .active then nextWarning r.warning win smoothed else r.warning
    exec (.conversionCompletion value) s = .next ({ u with
      seq := { u.seq with
        records := s.seq.records.set (.chan n k) ⟨delivered, smoothed, true, warning, u.startup.uptime⟩
        point :=
          if s.seq.mode = .full ∧ ¬(n = 3 ∧ k = .ref) then
            (match k with
            | .cur => .chan n .fwd
            | .fwd => .chan n .ref
            | .ref => .chan (n + 1) .cur)
          else .temp
        timer := .running 4 }
      log := { s.log with marks := s.log.marks.set n ((s.log.marks.get n).set k true) }
      notices := if warning = r.warning then u.notices else u.notices.post (.warning (.chan n k) warning smoothed) }
      : State).settle

/-- R89, R92, R93, R95: the four tables of evaluation with hysteresis. -/
def Obligations.HysteresisFollowsTheTables : Prop :=
  (∀ (win : Window) (v : Int),
    (nextWarning .normal win v = if win.high < v then .high else if v < win.low then .low else .normal)
    ∧ (nextWarning .high win v = if v < win.low then .low else if v ≤ win.high - win.hyst then .normal else .high)
    ∧ (nextWarning .low win v = if win.high < v then .high else if win.low + win.hyst ≤ v then .normal else .low))
  ∧ (∀ (p : SupplySettings) (v : Int),
    (nextSupplyOk true p v = false ↔ v < p.driveMin ∨ (p.driveMax : Int) < v)
    ∧ (nextSupplyOk false p v = true ↔ (p.driveMin : Int) + p.hyst ≤ v ∧ v ≤ (p.driveMax : Int) - p.hyst)
    ∧ (nextOverTemp false p v = true ↔ 16 * p.thermalLimit ≤ v)
    ∧ (nextOverTemp true p v = false ↔ v < 16 * (p.thermalLimit - p.thermalHyst)))
  ∧ (∀ (p : SupplySettings) (b : Fin 4) (v : Int), p.e1 < p.e2 → p.e2 < p.e3 →
    let edge := fun k : Nat => if k = 1 then (p.e1 : Int) else if k = 2 then (p.e2 : Int) else (p.e3 : Int)
    let next := nextBand b p v
    ((∃ k, b.val < k ∧ k ≤ 3 ∧ edge k ≤ v) →
      b.val < next.val ∧ edge next.val ≤ v ∧ ∀ k, next.val < k → k ≤ 3 → v < edge k)
    ∧ ((∀ k, b.val < k → k ≤ 3 → v < edge k) →
      next ≤ b ∧ (1 ≤ next.val → edge next.val - p.hyst ≤ v) ∧ ∀ k, next.val < k → k ≤ b.val → v < edge k - p.hyst))

/-! ## Set points (chapter 2) -/

/-- R35, R36, R37: the base of a curve: the end codes outside it, the truncated line between two breakpoints within it, always
between the codes of the segment and so a code of 0..4095. -/
def Obligations.TheBaseFollowsTheCurve : Prop :=
  ∀ (curve : List Breakpoint) (t16 : Int), curveOk curve = true →
    (∀ first, curve.head? = some first → t16 ≤ 16 * first.temp → curveBase curve t16 = first.code)
    ∧ (∀ last, curve.getLast? = some last → 16 * last.temp ≤ t16 → curveBase curve t16 = last.code)
    ∧ (∀ (i : Nat) (a b : Breakpoint), curve[i]? = some a → curve[i + 1]? = some b →
      16 * a.temp ≤ t16 → t16 < 16 * b.temp →
      curveBase curve t16 = a.code + (((b.code : Int) - a.code) * (t16 - 16 * a.temp)).tdiv (16 * (b.temp - a.temp))
      ∧ min (a.code : Int) b.code ≤ curveBase curve t16 ∧ curveBase curve t16 ≤ max (a.code : Int) b.code)
    ∧ 0 ≤ curveBase curve t16 ∧ curveBase curve t16 ≤ 4095

/-- R48 to R50 with R38, R39: EVAL_CURVE answers the base, the limited target and the limit applied for the named copy, and
changes no state; a STAGED copy needs CALIBRATE and an open edit; a field out of range is answered RANGE. -/
def Obligations.EvalCurveReportsBaseTargetAndLimit : Prop :=
  ∀ (s : State) (tag ch copy band : Byte) (t16 : Int),
    let payload := [ch, copy] ++ le16i t16 ++ [band]
    let answered := fun reply => exec (.evalCurve tag payload) s = .next (s.answered .evalCurve tag payload reply)
    s.Executes .evalCurve tag payload → -32768 ≤ t16 → t16 ≤ 32767 →
    ((3 < ch.toNat ∨ 1 < copy.toNat ∨ t16 < -880 ∨ 2400 < t16 ∨ 3 < band.toNat) → answered [4])
    ∧ (∀ (n b : Fin 4), ch.toNat = n.val → band.toNat = b.val → -880 ≤ t16 → t16 ≤ 2400 →
      let reply := fun p : Profile =>
        let c := p.channels.get n
        let base := curveBase c.curve t16
        let sum := base + c.trim.get b
        let raised : Int := max sum c.floor
        let target : Int := min raised c.ceiling
        let limit : Byte := if (c.ceiling : Int) < raised then 2 else if sum < c.floor then 1 else 0
        [0, ch, copy] ++ le16i t16 ++ [band] ++ le16i base ++ le16i target ++ [limit]
      (copy = 0 → answered (reply s.store.active))
      ∧ (copy = 1 → s.link.level ≠ .calibrate → answered [7])
      ∧ (copy = 1 → s.link.level = .calibrate → s.store.staged = none → answered [9])
      ∧ (∀ p, copy = 1 → s.link.level = .calibrate → s.store.staged = some p → answered (reply p)))

/-! ## Profiles, store and log (chapters 6, 7, 8) -/

/-- R107, R118: OPEN_EDIT copies the active profile and starts the idle timer, and is answered STATE in EDITING; ABANDON_EDIT
discards the copy without a notice, and is answered NO_EDIT in NO_EDIT. -/
def Obligations.EditsOpenAndAreAbandoned : Prop :=
  ∀ (s : State) (tag : Byte),
    (s.Executes .openEdit tag [] →
      (s.store.staged = none → exec (.openEdit tag []) s = .next (({ s with store := { s.store with
          staged := some s.store.active, idle := .running 120000 } } : State).answered .openEdit tag []
          (0 :: le32 s.store.active.generation)))
      ∧ (s.store.staged ≠ none → exec (.openEdit tag []) s = .next (s.answered .openEdit tag [] [5])))
    ∧ (s.Executes .abandonEdit tag [] →
      (s.store.staged ≠ none → exec (.abandonEdit tag []) s = .next (({ s with store := { s.store with
          staged := none, idle := .stopped } } : State).answered .abandonEdit tag [] [0]))
      ∧ (s.store.staged = none → exec (.abandonEdit tag []) s = .next (s.answered .abandonEdit tag [] [9])))

/-- R109: every PUT request: NO_EDIT without an edit; RANGE, with the staged copy entirely as it was; or OK, with the fields
replaced and the idle timer started again. Nothing outside the staged copy changes. -/
def Obligations.PutRequestsChangeOnlyTheStagedCopy : Prop :=
  ∀ (s : State) (r : RequestName) (tag : Byte) (payload : List Byte), r ∈ putRequests → s.Executes r tag payload →
    (s.store.staged = none → exec (requestCommand r tag payload) s = .next (s.answered r tag payload [9]))
    ∧ (∀ p, s.store.staged = some p → stagedAfter r payload p = none →
      exec (requestCommand r tag payload) s = .next (s.answered r tag payload [4]))
    ∧ (∀ p q, s.store.staged = some p → stagedAfter r payload p = some q →
      exec (requestCommand r tag payload) s = .next (({ s with store := { s.store with
        staged := some q, idle := .running 120000 } } : State).answered r tag payload [0]))

/-- R102, R103, R110 to R117, R178: what GET_PROFILE returns of a profile in range, put back by the PUT request of the same
fields, is taken and gives the staged copy those fields: no bit of a field is lost on the way. -/
def Obligations.PutTakesBackWhatGetProfileReturns : Prop :=
  ∀ (p q : Profile) (n : Chan), p.inRange = true →
    stagedAfter .putCurve (byteOf n.val :: byteOf (p.channels.get n).curve.length
        :: breakpointBytes (p.channels.get n).curve) q
      = some { q with channels := q.channels.set n { q.channels.get n with curve := (p.channels.get n).curve } }
    ∧ stagedAfter .putChannel (byteOf n.val :: (p.channels.get n).bytes) q
      = some { q with channels := q.channels.set n { p.channels.get n with
          curve := (q.channels.get n).curve, oc := (q.channels.get n).oc, hr := (q.channels.get n).hr
          lf := (q.channels.get n).lf } }
    ∧ stagedAfter .putTrip (byteOf n.val :: 0 :: (p.channels.get n).oc.bytes) q
      = some { q with channels := q.channels.set n { q.channels.get n with oc := (p.channels.get n).oc } }
    ∧ stagedAfter .putTrip (byteOf n.val :: 1 :: (p.channels.get n).hr.bytes) q
      = some { q with channels := q.channels.set n { q.channels.get n with hr := (p.channels.get n).hr } }
    ∧ stagedAfter .putTrip (byteOf n.val :: 2 :: (p.channels.get n).lf.bytes) q
      = some { q with channels := q.channels.set n { q.channels.get n with lf := (p.channels.get n).lf } }
    ∧ stagedAfter .putScanList (byteOf p.scanList.length :: p.scanList.map fun x => byteOf x.val) q
      = some { q with scanList := p.scanList }
    ∧ (∀ pt, stagedAfter .putWindow (byteOf pt.index :: (p.windows.get pt).bytes) q
      = some { q with windows := q.windows.set pt (p.windows.get pt) })
    ∧ stagedAfter .putSupply p.supply.bytes q = some { q with supply := p.supply }
    ∧ stagedAfter .putAccessCode (le32 p.accessCode) q = some { q with accessCode := p.accessCode }
    ∧ stagedAfter .putLabel (le32 p.label) q = some { q with label := p.label }

/-- R117: GET_PROFILE answers a section of the named copy and changes no state. -/
def Obligations.GetProfileReturnsASection : Prop :=
  ∀ (s : State) (tag code index copy : Byte), s.Executes .getProfile tag [code, index, copy] →
    let answered := fun reply =>
      exec (.getProfile tag [code, index, copy]) s = .next (s.answered .getProfile tag [code, index, copy] reply)
    ((6 < code.toNat ∨ 1 < copy.toNat ∨ (code.toNat ≤ 2 ∧ 3 < index.toNat) ∨ (code.toNat = 4 ∧ 13 < index.toNat)
      ∨ (code.toNat ∈ [3, 5, 6] ∧ index.toNat ≠ 0)) → answered [4])
    ∧ (∀ fields : Profile → List Byte,
      ((∃ n : Chan, n.val = index.toNat ∧
          ((code = 0 ∧ fields = fun p =>
              byteOf (p.channels.get n).curve.length :: breakpointBytes (p.channels.get n).curve)
            ∨ (code = 1 ∧ fields = fun p => (p.channels.get n).bytes)
            ∨ (code = 2 ∧ fields = fun p =>
              (p.channels.get n).oc.bytes ++ (p.channels.get n).hr.bytes ++ (p.channels.get n).lf.bytes)))
        ∨ (code = 3 ∧ index = 0 ∧ fields = fun p => byteOf p.scanList.length :: p.scanList.map fun x => byteOf x.val)
        ∨ (∃ pt : Point, pt.index = index.toNat ∧ code = 4 ∧ fields = fun p => (p.windows.get pt).bytes)
        ∨ (code = 5 ∧ index = 0 ∧ fields = fun p => p.supply.bytes)
        ∨ (code = 6 ∧ index = 0 ∧ fields = fun p => le32 p.label ++ le32 p.generation)) →
      (copy = 0 → answered ([0, code, index, copy] ++ fields s.store.active))
      ∧ (copy = 1 → s.link.level ≠ .calibrate → answered [7])
      ∧ (copy = 1 → s.link.level = .calibrate → s.store.staged = none → answered [9])
      ∧ (∀ p, copy = 1 → s.link.level = .calibrate → s.store.staged = some p →
        answered ([0, code, index, copy] ++ fields p)))

/-- R119, R120: a COMMIT that fails a check is answered with the first failure and changes nothing. -/
def Obligations.ARefusedCommitChangesNothing : Prop :=
  ∀ (s : State) (tag flag : Byte), s.Executes .commit tag [flag] →
    let answered := fun reply => exec (.commit tag [flag]) s = .next (s.answered .commit tag [flag] reply)
    (1 < flag.toNat → answered [4])
    ∧ (flag.toNat ≤ 1 → s.store.staged = none → answered [9])
    ∧ (s.store.staged ≠ none → flag = 1 → s.nv.op ≠ none → answered [6])
    ∧ (s.store.staged ≠ none → flag.toNat ≤ 1 → (flag = 1 → s.nv.op = none) →
      (s.store.active.generation = 4294967295 → answered [5])
      ∧ (s.store.active.generation ≠ 4294967295 → ∀ p, s.store.staged = some p →
        let running := fun n => (s.channels.get n).state.isRunning
        (∀ n : Chan, (p.channels.get n).ceiling < (p.channels.get n).floor →
          (∀ m, m < n → (p.channels.get m).floor ≤ (p.channels.get m).ceiling) → answered [10, 1, byteOf n.val])
        ∧ ((∀ n, (p.channels.get n).floor ≤ (p.channels.get n).ceiling) →
          (p.supply.e2 ≤ p.supply.e1 → answered [10, 2, 2])
          ∧ (p.supply.e1 < p.supply.e2 → p.supply.e3 ≤ p.supply.e2 → answered [10, 2, 3])
          ∧ (p.supply.e1 < p.supply.e2 → p.supply.e2 < p.supply.e3 →
            (p.supply.driveMax ≤ p.supply.driveMin + 2 * p.supply.hyst → answered [10, 3, 0])
            ∧ (p.supply.driveMin + 2 * p.supply.hyst < p.supply.driveMax →
              let narrow := fun q => (p.windows.get q).high ≤ (p.windows.get q).low
                ∨ (p.windows.get q).high - (p.windows.get q).low ≤ (p.windows.get q).hyst
              (∀ q, narrow q → (∀ q', q'.index < q.index → ¬narrow q') → answered [10, 4, byteOf q.index])
              ∧ ((∀ q, ¬narrow q) →
                (∀ n, running n = true → (p.channels.get n).usable = false →
                  (∀ m, m < n → running m = true → (p.channels.get m).usable = true) → answered [10, 5, byteOf n.val])
                ∧ ((∀ n, running n = true → (p.channels.get n).usable = true) →
                  ∀ n, running n = true → covered p.scanList n = false →
                    (∀ m, m < n → running m = true → covered p.scanList m = true) → answered [10, 6, byteOf n.val])))))))

/-- R121, R122, R130, with R8, R27 to R29, R43, R61, R77, R78, R86, R96, R97: a COMMIT whose checks pass: the staged copy is active
under the next generation, the edit is closed, and each block takes its share; then a lost supply parks the driven channels, a
condition newly set trips those still driven, and every channel in QUALIFYING evaluates its wait reasons, each in ascending
order and with its notices. That a page write that begins has 5 ms to run is the model's choice (log 14), and that the trips are
taken within the commit is read from R95 (log 16). -/
def Obligations.ACommitCarriesItsEffectsToEveryBlock : Prop :=
  ∀ (s : State) (tag flag : Byte) (p : Profile), s.Executes .commit tag [flag] → flag.toNat ≤ 1 →
    s.store.staged = some p → (flag = 1 → s.nv.op = none) → s.store.active.generation ≠ 4294967295 →
    firstFailure p s.isRunning = none →
    let active := { p with generation := s.store.active.generation + 1 }
    let supply := s.seq.records.supply
    let temp := s.seq.records.temp
    let ok : Bool := decide (supply.valid = true ∧ p.supply.driveMin ≤ supply.smoothed ∧ supply.smoothed ≤ p.supply.driveMax)
    let hot : Bool := decide (temp.valid = true ∧ 16 * p.supply.thermalLimit ≤ temp.smoothed)
    let edges : List Int := [p.supply.e1, p.supply.e2, p.supply.e3]
    let slot := slotToWrite s.nv.statusA s.nv.statusB
    let lost := s.seq.supplyOk = true ∧ ok = false
    let lostPath : Chan → Path := fun n => if lost then (s.channels.get n).state.lostPath else []
    ∃ t : State, exec (.commit tag [flag]) s = .next (t.answered .commit tag [flag] (flag :: le32 active.generation))
      ∧ t.store = ⟨active, none, .stopped⟩
      ∧ t.seq.supplyOk = ok ∧ t.seq.overTemp = hot
      ∧ t.seq.band.val = (if supply.valid then (edges.filter fun e => decide (e ≤ supply.smoothed)).length else 0)
      ∧ t.seq.mode = (if lost then .restricted else s.seq.mode)
      ∧ t.seq.records.temp = temp ∧ t.seq.records.supply = supply
      ∧ t.seq.running = s.seq.running ∧ t.seq.point = s.seq.point ∧ t.seq.timer = s.seq.timer
      ∧ (∀ n, (t.targets.get n : Int) =
        if temp.valid then (p.channels.get n).targetAt temp.smoothed t.seq.band else (p.channels.get n).floor)
      ∧ t.scanner.position = 0 ∧ t.scanner.scanning = s.scanner.scanning
      ∧ (let supplied := fun n => t.follow n ((s.view n).replaced n s.store.active p) (lostPath n)
        let trips : Chan → Bool := fun n => match (supplied n).chan.state with
          | .ramping | .active | .windingDown => hot && !s.seq.overTemp
          | .disabled | .qualifying | .held | .tripped | .locked => false
        let number := numberAmong s.log.next trips
        let tripped := fun n => if trips n then t.heated n (supplied n) (number n) else supplied n
        (∀ n, t.view n = t.evaluated n (tripped n) .commit)
        ∧ t.log.next = s.log.next + BitVec.ofNat 16 (allChans.filter trips).length
        ∧ (s.log.records.length ≤ 24 → t.log.records
          = keptRecords s.log.records ((allChans.filter trips).map fun n => t.heatRecord n (supplied n) (number n)))
        ∧ t.notices = s.notices.postAll (
          (if ok = s.seq.supplyOk then [] else [.supply ok supply.smoothed t.seq.band])
          ++ (allChans.flatMap fun n => pathNotices n (t.waitReasons n) (s.channels.get n).state (lostPath n))
          ++ ((allChans.filter trips).flatMap fun n => t.heatNotices n (supplied n) (number n))
          ++ (allChans.flatMap fun n =>
            pathNotices n (t.waitReasons n) .qualifying (t.readyPath n (tripped n).chan.state .commit))))
      ∧ (flag = 0 → t.nv = s.nv)
      ∧ (flag = 1 → t.nv.op = some ⟨slot, active, 1, .running 5⟩ ∧ t.nv.pagesWritten = 0
        ∧ t.nv.status slot = ⟨false, 0⟩ ∧ t.nv.pages slot = { s.nv.pages slot with completionMark := false }
        ∧ ∀ other, other ≠ slot → t.nv.status other = s.nv.status other ∧ t.nv.pages other = s.nv.pages other)
      ∧ t.startup = s.startup ∧ t.pins = s.pins ∧ t.link = s.link ∧ t.pending = s.pending

/-- R129, R130, R138: PERSIST is BUSY while an operation is in flight; else it starts one of the active profile into the slot
to write, which is never the newest valid slot, and answers ACCEPTED. That its first page has 5 ms to run is the model's choice
(log 14). -/
def Obligations.PersistStartsAnOperation : Prop :=
  ∀ (s : State) (tag : Byte), s.Executes .persist tag [] →
    (s.nv.op ≠ none → exec (.persist tag []) s = .next (s.answered .persist tag [] [6]))
    ∧ (∀ slot : SlotName, s.nv.op = none →
      (slot = .b ↔ s.nv.statusA.valid = true
        ∧ (s.nv.statusB.valid = true → s.nv.statusB.generation.toNat ≤ s.nv.statusA.generation.toNat)) →
      ∃ t : NvStore, exec (.persist tag []) s = .next (({ s with nv := t } : State).answered .persist tag []
          (1 :: byteOf slot.code :: le32 s.store.active.generation))
        ∧ t.op = some ⟨slot, s.store.active, 1, .running 5⟩ ∧ t.pagesWritten = 0
        ∧ t.status slot = ⟨false, 0⟩ ∧ t.pages slot = { s.nv.pages slot with completionMark := false }
        ∧ ∀ other, other ≠ slot → t.status other = s.nv.status other ∧ t.pages other = s.nv.pages other)

/-- R131 to R134: the completion of a page: a match writes it and goes on, the ninth ends DONE with the slot valid under the
snapshot's generation, a mismatch ends FAILED with the slot invalid; each ending posts its STORE notice. The other slot and
all else stay. The model's choices: the content of the target is replaced whole with page 8 and the header with page 9 (log 13),
a page has lasted 5 ms (log 14), and a completion without an operation changes nothing (log 6). -/
def Obligations.PageCompletionsWriteOrEnd : Prop :=
  ∀ s : State,
    (s.nv.op = none → ∀ matched, exec (.pageWriteCompletion matched) s = .next s)
    ∧ (∀ (o : PersistOp) (matched : Bool) (other : SlotName), s.nv.op = some o → other ≠ o.target → o.page ≤ 9 →
      let u := s.elapse o.write.remaining
      ∃ (nv : NvStore) (notices : NoticeQueue),
        exec (.pageWriteCompletion matched) s = .next ({ u with nv := nv, notices := notices } : State).settle
        ∧ nv.status other = s.nv.status other ∧ nv.pages other = s.nv.pages other
        ∧ (matched = true → o.page < 9 →
          nv.op = some { o with page := o.page + 1, write := .running 5 } ∧ nv.pagesWritten = s.nv.pagesWritten + 1
          ∧ nv.status o.target = s.nv.status o.target
          ∧ (nv.pages o.target).content = (if o.page = 8 then o.snapshot else (s.nv.pages o.target).content)
          ∧ (nv.pages o.target).completionMark = (s.nv.pages o.target).completionMark ∧ notices = u.notices)
        ∧ (matched = true → o.page = 9 →
          nv.op = none ∧ nv.pagesWritten = s.nv.pagesWritten + 1
          ∧ nv.status o.target = ⟨true, o.snapshot.generation⟩
          ∧ nv.pages o.target = ⟨(s.nv.pages o.target).content, o.snapshot.generation, 1, true, true⟩
          ∧ notices = u.notices.post (.store true o.target o.snapshot.generation))
        ∧ (matched = false →
          nv.op = none ∧ nv.pagesWritten = s.nv.pagesWritten ∧ nv.status o.target = ⟨false, 0⟩
          ∧ (nv.pages o.target).completionMark = false
          ∧ notices = u.notices.post (.store false o.target o.snapshot.generation)))

/-- R124, R125, R129, R142, with R8, R29, R61, R77, R78, R86, R96, R97: REVERT: refused in order; else the image of the newest
valid slot becomes active with its generation and the effects of a commit: no channel runs, so none is parked or trips, and
every channel in QUALIFYING evaluates its wait reasons. The store stays as it is. -/
def Obligations.RevertInstallsTheNewestSlot : Prop :=
  ∀ (s : State) (tag : Byte), s.Executes .revert tag [] →
    let answered := fun reply => exec (.revert tag []) s = .next (s.answered .revert tag [] reply)
    let anyRuns := ∃ n, (s.channels.get n).state.isRunning = true
    (s.store.staged ≠ none → answered [5])
    ∧ (s.store.staged = none → anyRuns → answered [11])
    ∧ (s.store.staged = none → ¬anyRuns → s.nv.op ≠ none → answered [6])
    ∧ (s.store.staged = none → ¬anyRuns → s.nv.op = none → s.nv.statusA.valid = false → s.nv.statusB.valid = false → answered [5])
    ∧ (∀ slot, s.store.staged = none → ¬anyRuns → s.nv.op = none → (s.nv.status slot).valid = true →
      (∀ other, other ≠ slot → (s.nv.status other).valid = true →
        if slot = .a then (s.nv.status other).generation.toNat ≤ (s.nv.status slot).generation.toNat
        else (s.nv.status other).generation.toNat < (s.nv.status slot).generation.toNat) →
      let active := { (s.nv.pages slot).content with generation := (s.nv.pages slot).generation }
      let supply := s.seq.records.supply
      let temp := s.seq.records.temp
      let ok : Bool := decide (supply.valid = true
        ∧ active.supply.driveMin ≤ supply.smoothed ∧ supply.smoothed ≤ active.supply.driveMax)
      let hot : Bool := decide (temp.valid = true ∧ 16 * active.supply.thermalLimit ≤ temp.smoothed)
      let edges : List Int := [active.supply.e1, active.supply.e2, active.supply.e3]
      ∃ t : State, exec (.revert tag []) s
          = .next (t.answered .revert tag [] (0 :: (if slot = .a then 0 else 1) :: le32 active.generation))
        ∧ t.store = { s.store with active := active } ∧ t.nv = s.nv
        ∧ t.seq = { s.seq with
          supplyOk := ok
          overTemp := hot
          band := t.seq.band
          mode := if s.seq.supplyOk = true ∧ ok = false then .restricted else s.seq.mode }
        ∧ t.seq.band.val = (if supply.valid then (edges.filter fun e => decide (e ≤ supply.smoothed)).length else 0)
        ∧ (∀ n, (t.targets.get n : Int) =
          if temp.valid then (active.channels.get n).targetAt temp.smoothed t.seq.band else (active.channels.get n).floor)
        ∧ t.scanner.position = 0 ∧ t.scanner.scanning = s.scanner.scanning
        ∧ (∀ n, t.view n = t.evaluated n ((s.view n).replaced n s.store.active active) .commit)
        ∧ t.notices = s.notices.postAll (
          (if ok = s.seq.supplyOk then [] else [.supply ok supply.smoothed t.seq.band])
          ++ (allChans.flatMap fun n =>
            pathNotices n (t.waitReasons n) .qualifying (t.readyPath n (s.channels.get n).state .commit)))
        ∧ s.SameLog t ∧ t.startup = s.startup ∧ t.pins = s.pins ∧ t.link = s.link ∧ t.pending = s.pending)

/-- R32, R80, R139, R183 with section 10.11: IDENTIFY, STORE_STATUS, CHANNEL_STATUS and READ_SCAN answer their fields and change
no state. -/
def Obligations.StatusRequestsOnlyReport : Prop :=
  ∀ (s : State) (tag : Byte),
    (s.Executes .identify tag [] → exec (.identify tag []) s = .next (s.answered .identify tag []
      [0, 5, 0x55, 0x48, 0x52, 0x49, 0x4E, 2, 0x42, 0x34, 3, 1, 4, 16, 16, 24, 16]))
    ∧ (s.Executes .storeStatus tag [] → exec (.storeStatus tag []) s = .next (s.answered .storeStatus tag []
      ([0, if s.nv.statusA.valid then 1 else 0] ++ le32 s.nv.statusA.generation
        ++ [if s.nv.statusB.valid then 1 else 0] ++ le32 s.nv.statusB.generation
        ++ [if s.nv.op.isSome then 1 else 0, byteOf s.nv.pagesWritten]
        ++ (match s.nv.op with
          | none => [0]
          | some o => 1 :: le32 o.snapshot.generation)
        ++ le32 s.store.active.generation)))
    ∧ (∀ ch : Byte, s.Executes .channelStatus tag [ch] →
      (3 < ch.toNat → exec (.channelStatus tag [ch]) s = .next (s.answered .channelStatus tag [ch] [4]))
      ∧ (∀ n : Chan, n.val = ch.toNat →
        let c := s.channels.get n
        exec (.channelStatus tag [ch]) s = .next (s.answered .channelStatus tag [ch]
          ([0, ch, byteOf c.state.code, byteOf c.wait.mask, if s.pins.hold.get n then 1 else 0, if c.softHold then 1 else 0]
            ++ le16 (s.drive.get n).output ++ le16 (s.targets.get n)
            ++ [byteOf c.retryCount, byteOf c.blanking.remaining] ++ le16 c.retry.remaining
            ++ le32 (BitVec.ofNat 32 c.stable.remaining)
            ++ (match c.lastTrip with
              | none => [0]
              | some number => 1 :: le16 number.toNat)))))
    ∧ (s.Executes .readScan tag [] → exec (.readScan tag []) s = .next (s.answered .readScan tag []
      ([0, byteOf s.store.active.scanList.length] ++ (s.store.active.scanList.map fun p => byteOf p.val)
        ++ (allChans.flatMap fun n => [byteOf (s.scanner.tallies.get n).oc, byteOf (s.scanner.tallies.get n).hr,
          byteOf (s.scanner.tallies.get n).lf])
        ++ (allChans.map fun n => if (s.scanner.tallies.get n).armed then 1 else 0))))

/-- R99, R100: READ_POINTS answers the conditions and the records of one to eight named points in index order and changes no
state; any other mask is answered RANGE. -/
def Obligations.ReadPointsReportsTheNamedRecords : Prop :=
  ∀ (s : State) (tag m0 m1 : Byte), s.Executes .readPoints tag [m0, m1] →
    let mask : BitVec 16 := m1 ++ m0
    let named := allPoints.filter fun p => mask.getLsbD p.index
    ((mask = 0 ∨ 16383 < mask.toNat ∨ 8 < named.length) →
      exec (.readPoints tag [m0, m1]) s = .next (s.answered .readPoints tag [m0, m1] [4]))
    ∧ (mask ≠ 0 → mask.toNat ≤ 16383 → named.length ≤ 8 →
      exec (.readPoints tag [m0, m1]) s = .next (s.answered .readPoints tag [m0, m1]
        ([0, m0, m1, if s.seq.supplyOk then 1 else 0, byteOf s.seq.band.val, if s.seq.overTemp then 1 else 0,
            match s.seq.mode with
            | .restricted => 0
            | .full => 1]
          ++ named.flatMap fun p =>
            let r := s.seq.records.get p
            [byteOf p.index, if r.valid then 1 else 0, byteOf r.warning.code] ++ le16i r.raw ++ le16i r.smoothed
              ++ le32 r.uptime)))

/-- R149, R150, R151: READ_LOG answers from the record named, or from the oldest, the consecutive records that the count and the
frame allow, and changes no state; CLEAR_LOG removes every record and keeps the next trip number and all else. R144: the bytes
of a record. -/
def Obligations.TheLogIsReadAndCleared : Prop :=
  (∀ r : FaultRecord, r.bytes = r.layout)
  ∧ ∀ (s : State) (tag : Byte),
    (∀ n0 n1 count : Byte, s.Executes .readLog tag [n0, n1, count] →
      let number : BitVec 16 := n1 ++ n0
      let sized := fun l : List FaultRecord => 9 + (l.map fun r => r.bytes.length).sum
      ((count = 0 ∨ 4 < count.toNat) →
        exec (.readLog tag [n0, n1, count]) s = .next (s.answered .readLog tag [n0, n1, count] [4]))
      ∧ (∀ (before start taken after : List FaultRecord) (moved : Bool), 1 ≤ count.toNat → count.toNat ≤ 4 →
        s.log.records = before ++ start → start = taken ++ after →
        ((moved = false ∧ (start.head?.map (·.number)) = some number ∧ ∀ r ∈ before, r.number ≠ number)
          ∨ (moved = true ∧ before = [] ∧ ∀ r ∈ s.log.records, r.number ≠ number)) →
        taken.length ≤ count.toNat → sized taken ≤ 117 →
        (after = [] ∨ taken.length = count.toNat ∨ ∃ r, after.head? = some r ∧ 117 < sized (taken ++ [r])) →
        exec (.readLog tag [n0, n1, count]) s = .next (s.answered .readLog tag [n0, n1, count]
          ([0, if moved then 1 else 0]
            ++ (match s.log.records.head? with
              | none => [0]
              | some r => 1 :: le16 r.number.toNat)
            ++ (match s.log.records.getLast? with
              | none => [0]
              | some r => 1 :: le16 r.number.toNat)
            ++ [byteOf taken.length] ++ taken.flatMap FaultRecord.bytes))))
    ∧ (s.Executes .clearLog tag [] → exec (.clearLog tag []) s = .next (({ s with log := { s.log with records := [] } }
      : State).answered .clearLog tag [] [0, byteOf s.log.records.length]))

/-! ## Invariants -/

/-- Every invariant of the part holds right after reset. -/
def Obligations.TheResetStateIsInOrder : Prop := State.reset.Ok

/-- R156: the Notice Queue stays in order under every step. -/
def Obligations.NoticesStayConsecutive : Prop :=
  ∀ s t : State, s.notices.Ok → step s = .next t → t.notices.Ok

/-- R145: the Fault Log stays in order under every step. -/
def Obligations.FaultLogStaysConsecutive : Prop :=
  ∀ s t : State, s.log.Ok → step s = .next t → t.log.Ok

/-- R167, R173: the request queue and the receiver stay in order under every step. -/
def Obligations.TheLinkStaysBounded : Prop :=
  ∀ s t : State, s.link.QueueOk → s.link.ReceiverOk → step s = .next t → t.link.QueueOk ∧ t.link.ReceiverOk

/-- R106, R180, R186: the session, the level, the edit and the lockout stay in order under every step. -/
def Obligations.EditsNeedCalibrateAndASession : Prop :=
  ∀ s t : State, s.SessionOk → step s = .next t → t.SessionOk

/-- R1, R33, R52, R67, R83, R128, R188, R189: until the end of recall every step leaves the blocks at their values after a full
reset, in RESET_HELD the request queue empty and the transmitter IDLE, and after RESET_HELD the supply good. Of these values the
active profile (log 10) and the slot status before recall (log 11) are the model's choice. -/
def Obligations.BlocksAreHeldUntilRecallEnds : Prop :=
  ∀ s t : State, s.HeldUntilRecall → step s = .next t → t.HeldUntilRecall

/-- R1, R6, R53, R58: the timers, the wait-reason set and the Drive Stage of each channel stay those of its state, and a parked
output stands at its park code, under every step. -/
def Obligations.DriveStagesMatchTheirChannels : Prop :=
  ∀ s t : State, s.HeldUntilRecall → s.ChannelsOk → step s = .next t → t.ChannelsOk

/-- R104, R120, R129, R130: the active profile always passes the commit checks that need no channel, and the slots never run
ahead of it, under every step. -/
def Obligations.TheActiveProfileStaysGood : Prop :=
  ∀ s t : State, s.HeldUntilRecall → s.ProfilesOk → step s = .next t → t.ProfilesOk

/-- R27, R28, R29: under every step a channel is driven only while the supply status is OK, a temperature is valid and the
over-temperature condition is clear, and runs only while it is usable and covered. -/
def Obligations.ChannelsRunOnlyInSafeConditions : Prop :=
  ∀ s t : State, s.HeldUntilRecall → s.ProfilesOk → s.RunsSafely → step s = .next t → t.RunsSafely

/-- R26, R39, R67, R72, R76: under every step retry counts stay within their budgets, targets between floor and ceiling, and
tallies below their confirm counts. -/
def Obligations.CountsAndTargetsStayInBounds : Prop :=
  ∀ s t : State, s.HeldUntilRecall → s.ProfilesOk → s.BoundsOk → s.ScanOk → step s = .next t → t.BoundsOk ∧ t.ScanOk
end

