-- ==== Sys2Proof/Laws/State.lean ====
section
/-! SUPPORT. What each field of the state is after each field update, true by unfolding, and the laws of four like things. -/

namespace Sys2Proof

variable {α β : Type}

/-! ## Four like things -/

theorem Quad.get_set (q : Quad α) (n m : Fin 4) (a : α) : (q.set n a).get m = if m = n then a else q.get m := by
  match n, m with
  | 0, 0 => rfl | 0, 1 => rfl | 0, 2 => rfl | 0, 3 => rfl
  | 1, 0 => rfl | 1, 1 => rfl | 1, 2 => rfl | 1, 3 => rfl
  | 2, 0 => rfl | 2, 1 => rfl | 2, 2 => rfl | 2, 3 => rfl
  | 3, 0 => rfl | 3, 1 => rfl | 3, 2 => rfl | 3, 3 => rfl

@[simp] theorem Quad.get_set_self (q : Quad α) (n : Fin 4) (a : α) : (q.set n a).get n = a := by simp [Quad.get_set]

theorem Quad.get_set_of_ne (q : Quad α) {n m : Fin 4} (a : α) (h : m ≠ n) : (q.set n a).get m = q.get m := by
  simp [Quad.get_set, h]

@[simp] theorem Quad.set_get_self (q : Quad α) (n : Fin 4) : q.set n (q.get n) = q := by
  match n with
  | 0 => rfl
  | 1 => rfl
  | 2 => rfl
  | 3 => rfl

@[simp] theorem Quad.set_set_self (q : Quad α) (n : Fin 4) (a b : α) : (q.set n a).set n b = q.set n b := by
  match n with
  | 0 => rfl
  | 1 => rfl
  | 2 => rfl
  | 3 => rfl

@[simp] theorem Quad.get_const (a : α) (n : Fin 4) : (Quad.const a).get n = a := by
  match n with
  | 0 => rfl
  | 1 => rfl
  | 2 => rfl
  | 3 => rfl

@[simp] theorem Quad.get_map (f : α → β) (q : Quad α) (n : Fin 4) : (q.map f).get n = f (q.get n) := by
  match n with
  | 0 => rfl
  | 1 => rfl
  | 2 => rfl
  | 3 => rfl

@[simp] theorem Quad.get_ofFn (f : Fin 4 → α) (n : Fin 4) : (Quad.ofFn f).get n = f n := by
  match n with
  | 0 => rfl
  | 1 => rfl
  | 2 => rfl
  | 3 => rfl

/-- Two groups of four are equal when their members are. -/
theorem Quad.ext_get {p q : Quad α} (h : ∀ n, p.get n = q.get n) : p = q := by
  obtain ⟨p0, p1, p2, p3⟩ := p
  obtain ⟨q0, q1, q2, q3⟩ := q
  have h0 := h 0
  have h1 := h 1
  have h2 := h 2
  have h3 := h 3
  simp only [Quad.get] at h0 h1 h2 h3
  simp [h0, h1, h2, h3]

end Sys2Proof

namespace Sys2Proof.Machine

variable (s : State)

/-! ## setChan -/

@[simp] theorem State.setChan_channels (n : Chan) (c : Channel) : (s.setChan n c).channels = s.channels.set n c := rfl
@[simp] theorem State.setChan_targets (n : Chan) (c : Channel) : (s.setChan n c).targets = s.targets := rfl
@[simp] theorem State.setChan_drive (n : Chan) (c : Channel) : (s.setChan n c).drive = s.drive := rfl
@[simp] theorem State.setChan_scanner (n : Chan) (c : Channel) : (s.setChan n c).scanner = s.scanner := rfl
@[simp] theorem State.setChan_seq (n : Chan) (c : Channel) : (s.setChan n c).seq = s.seq := rfl
@[simp] theorem State.setChan_store (n : Chan) (c : Channel) : (s.setChan n c).store = s.store := rfl
@[simp] theorem State.setChan_nv (n : Chan) (c : Channel) : (s.setChan n c).nv = s.nv := rfl
@[simp] theorem State.setChan_log (n : Chan) (c : Channel) : (s.setChan n c).log = s.log := rfl
@[simp] theorem State.setChan_link (n : Chan) (c : Channel) : (s.setChan n c).link = s.link := rfl
@[simp] theorem State.setChan_notices (n : Chan) (c : Channel) : (s.setChan n c).notices = s.notices := rfl
@[simp] theorem State.setChan_startup (n : Chan) (c : Channel) : (s.setChan n c).startup = s.startup := rfl
@[simp] theorem State.setChan_pins (n : Chan) (c : Channel) : (s.setChan n c).pins = s.pins := rfl
@[simp] theorem State.setChan_pending (n : Chan) (c : Channel) : (s.setChan n c).pending = s.pending := rfl

/-! ## setDrive -/

@[simp] theorem State.setDrive_channels (n : Chan) (d : DriveStage) : (s.setDrive n d).channels = s.channels := rfl
@[simp] theorem State.setDrive_targets (n : Chan) (d : DriveStage) : (s.setDrive n d).targets = s.targets := rfl
@[simp] theorem State.setDrive_drive (n : Chan) (d : DriveStage) : (s.setDrive n d).drive = s.drive.set n d := rfl
@[simp] theorem State.setDrive_scanner (n : Chan) (d : DriveStage) : (s.setDrive n d).scanner = s.scanner := rfl
@[simp] theorem State.setDrive_seq (n : Chan) (d : DriveStage) : (s.setDrive n d).seq = s.seq := rfl
@[simp] theorem State.setDrive_store (n : Chan) (d : DriveStage) : (s.setDrive n d).store = s.store := rfl
@[simp] theorem State.setDrive_nv (n : Chan) (d : DriveStage) : (s.setDrive n d).nv = s.nv := rfl
@[simp] theorem State.setDrive_log (n : Chan) (d : DriveStage) : (s.setDrive n d).log = s.log := rfl
@[simp] theorem State.setDrive_link (n : Chan) (d : DriveStage) : (s.setDrive n d).link = s.link := rfl
@[simp] theorem State.setDrive_notices (n : Chan) (d : DriveStage) : (s.setDrive n d).notices = s.notices := rfl
@[simp] theorem State.setDrive_startup (n : Chan) (d : DriveStage) : (s.setDrive n d).startup = s.startup := rfl
@[simp] theorem State.setDrive_pins (n : Chan) (d : DriveStage) : (s.setDrive n d).pins = s.pins := rfl
@[simp] theorem State.setDrive_pending (n : Chan) (d : DriveStage) : (s.setDrive n d).pending = s.pending := rfl

/-! ## withScanner -/

@[simp] theorem State.withScanner_channels (x : Scanner) : (s.withScanner x).channels = s.channels := rfl
@[simp] theorem State.withScanner_targets (x : Scanner) : (s.withScanner x).targets = s.targets := rfl
@[simp] theorem State.withScanner_drive (x : Scanner) : (s.withScanner x).drive = s.drive := rfl
@[simp] theorem State.withScanner_scanner (x : Scanner) : (s.withScanner x).scanner = x := rfl
@[simp] theorem State.withScanner_seq (x : Scanner) : (s.withScanner x).seq = s.seq := rfl
@[simp] theorem State.withScanner_store (x : Scanner) : (s.withScanner x).store = s.store := rfl
@[simp] theorem State.withScanner_nv (x : Scanner) : (s.withScanner x).nv = s.nv := rfl
@[simp] theorem State.withScanner_log (x : Scanner) : (s.withScanner x).log = s.log := rfl
@[simp] theorem State.withScanner_link (x : Scanner) : (s.withScanner x).link = s.link := rfl
@[simp] theorem State.withScanner_notices (x : Scanner) : (s.withScanner x).notices = s.notices := rfl
@[simp] theorem State.withScanner_startup (x : Scanner) : (s.withScanner x).startup = s.startup := rfl
@[simp] theorem State.withScanner_pins (x : Scanner) : (s.withScanner x).pins = s.pins := rfl
@[simp] theorem State.withScanner_pending (x : Scanner) : (s.withScanner x).pending = s.pending := rfl

/-! ## withSeq -/

@[simp] theorem State.withSeq_channels (x : Sequencer) : (s.withSeq x).channels = s.channels := rfl
@[simp] theorem State.withSeq_targets (x : Sequencer) : (s.withSeq x).targets = s.targets := rfl
@[simp] theorem State.withSeq_drive (x : Sequencer) : (s.withSeq x).drive = s.drive := rfl
@[simp] theorem State.withSeq_scanner (x : Sequencer) : (s.withSeq x).scanner = s.scanner := rfl
@[simp] theorem State.withSeq_seq (x : Sequencer) : (s.withSeq x).seq = x := rfl
@[simp] theorem State.withSeq_store (x : Sequencer) : (s.withSeq x).store = s.store := rfl
@[simp] theorem State.withSeq_nv (x : Sequencer) : (s.withSeq x).nv = s.nv := rfl
@[simp] theorem State.withSeq_log (x : Sequencer) : (s.withSeq x).log = s.log := rfl
@[simp] theorem State.withSeq_link (x : Sequencer) : (s.withSeq x).link = s.link := rfl
@[simp] theorem State.withSeq_notices (x : Sequencer) : (s.withSeq x).notices = s.notices := rfl
@[simp] theorem State.withSeq_startup (x : Sequencer) : (s.withSeq x).startup = s.startup := rfl
@[simp] theorem State.withSeq_pins (x : Sequencer) : (s.withSeq x).pins = s.pins := rfl
@[simp] theorem State.withSeq_pending (x : Sequencer) : (s.withSeq x).pending = s.pending := rfl

/-! ## withStore -/

@[simp] theorem State.withStore_channels (x : ProfileStore) : (s.withStore x).channels = s.channels := rfl
@[simp] theorem State.withStore_targets (x : ProfileStore) : (s.withStore x).targets = s.targets := rfl
@[simp] theorem State.withStore_drive (x : ProfileStore) : (s.withStore x).drive = s.drive := rfl
@[simp] theorem State.withStore_scanner (x : ProfileStore) : (s.withStore x).scanner = s.scanner := rfl
@[simp] theorem State.withStore_seq (x : ProfileStore) : (s.withStore x).seq = s.seq := rfl
@[simp] theorem State.withStore_store (x : ProfileStore) : (s.withStore x).store = x := rfl
@[simp] theorem State.withStore_nv (x : ProfileStore) : (s.withStore x).nv = s.nv := rfl
@[simp] theorem State.withStore_log (x : ProfileStore) : (s.withStore x).log = s.log := rfl
@[simp] theorem State.withStore_link (x : ProfileStore) : (s.withStore x).link = s.link := rfl
@[simp] theorem State.withStore_notices (x : ProfileStore) : (s.withStore x).notices = s.notices := rfl
@[simp] theorem State.withStore_startup (x : ProfileStore) : (s.withStore x).startup = s.startup := rfl
@[simp] theorem State.withStore_pins (x : ProfileStore) : (s.withStore x).pins = s.pins := rfl
@[simp] theorem State.withStore_pending (x : ProfileStore) : (s.withStore x).pending = s.pending := rfl

/-! ## withNv -/

@[simp] theorem State.withNv_channels (x : NvStore) : (s.withNv x).channels = s.channels := rfl
@[simp] theorem State.withNv_targets (x : NvStore) : (s.withNv x).targets = s.targets := rfl
@[simp] theorem State.withNv_drive (x : NvStore) : (s.withNv x).drive = s.drive := rfl
@[simp] theorem State.withNv_scanner (x : NvStore) : (s.withNv x).scanner = s.scanner := rfl
@[simp] theorem State.withNv_seq (x : NvStore) : (s.withNv x).seq = s.seq := rfl
@[simp] theorem State.withNv_store (x : NvStore) : (s.withNv x).store = s.store := rfl
@[simp] theorem State.withNv_nv (x : NvStore) : (s.withNv x).nv = x := rfl
@[simp] theorem State.withNv_log (x : NvStore) : (s.withNv x).log = s.log := rfl
@[simp] theorem State.withNv_link (x : NvStore) : (s.withNv x).link = s.link := rfl
@[simp] theorem State.withNv_notices (x : NvStore) : (s.withNv x).notices = s.notices := rfl
@[simp] theorem State.withNv_startup (x : NvStore) : (s.withNv x).startup = s.startup := rfl
@[simp] theorem State.withNv_pins (x : NvStore) : (s.withNv x).pins = s.pins := rfl
@[simp] theorem State.withNv_pending (x : NvStore) : (s.withNv x).pending = s.pending := rfl

/-! ## withLog -/

@[simp] theorem State.withLog_channels (x : FaultLog) : (s.withLog x).channels = s.channels := rfl
@[simp] theorem State.withLog_targets (x : FaultLog) : (s.withLog x).targets = s.targets := rfl
@[simp] theorem State.withLog_drive (x : FaultLog) : (s.withLog x).drive = s.drive := rfl
@[simp] theorem State.withLog_scanner (x : FaultLog) : (s.withLog x).scanner = s.scanner := rfl
@[simp] theorem State.withLog_seq (x : FaultLog) : (s.withLog x).seq = s.seq := rfl
@[simp] theorem State.withLog_store (x : FaultLog) : (s.withLog x).store = s.store := rfl
@[simp] theorem State.withLog_nv (x : FaultLog) : (s.withLog x).nv = s.nv := rfl
@[simp] theorem State.withLog_log (x : FaultLog) : (s.withLog x).log = x := rfl
@[simp] theorem State.withLog_link (x : FaultLog) : (s.withLog x).link = s.link := rfl
@[simp] theorem State.withLog_notices (x : FaultLog) : (s.withLog x).notices = s.notices := rfl
@[simp] theorem State.withLog_startup (x : FaultLog) : (s.withLog x).startup = s.startup := rfl
@[simp] theorem State.withLog_pins (x : FaultLog) : (s.withLog x).pins = s.pins := rfl
@[simp] theorem State.withLog_pending (x : FaultLog) : (s.withLog x).pending = s.pending := rfl

/-! ## withLink -/

@[simp] theorem State.withLink_channels (x : Link) : (s.withLink x).channels = s.channels := rfl
@[simp] theorem State.withLink_targets (x : Link) : (s.withLink x).targets = s.targets := rfl
@[simp] theorem State.withLink_drive (x : Link) : (s.withLink x).drive = s.drive := rfl
@[simp] theorem State.withLink_scanner (x : Link) : (s.withLink x).scanner = s.scanner := rfl
@[simp] theorem State.withLink_seq (x : Link) : (s.withLink x).seq = s.seq := rfl
@[simp] theorem State.withLink_store (x : Link) : (s.withLink x).store = s.store := rfl
@[simp] theorem State.withLink_nv (x : Link) : (s.withLink x).nv = s.nv := rfl
@[simp] theorem State.withLink_log (x : Link) : (s.withLink x).log = s.log := rfl
@[simp] theorem State.withLink_link (x : Link) : (s.withLink x).link = x := rfl
@[simp] theorem State.withLink_notices (x : Link) : (s.withLink x).notices = s.notices := rfl
@[simp] theorem State.withLink_startup (x : Link) : (s.withLink x).startup = s.startup := rfl
@[simp] theorem State.withLink_pins (x : Link) : (s.withLink x).pins = s.pins := rfl
@[simp] theorem State.withLink_pending (x : Link) : (s.withLink x).pending = s.pending := rfl

/-! ## withNotices -/

@[simp] theorem State.withNotices_channels (x : NoticeQueue) : (s.withNotices x).channels = s.channels := rfl
@[simp] theorem State.withNotices_targets (x : NoticeQueue) : (s.withNotices x).targets = s.targets := rfl
@[simp] theorem State.withNotices_drive (x : NoticeQueue) : (s.withNotices x).drive = s.drive := rfl
@[simp] theorem State.withNotices_scanner (x : NoticeQueue) : (s.withNotices x).scanner = s.scanner := rfl
@[simp] theorem State.withNotices_seq (x : NoticeQueue) : (s.withNotices x).seq = s.seq := rfl
@[simp] theorem State.withNotices_store (x : NoticeQueue) : (s.withNotices x).store = s.store := rfl
@[simp] theorem State.withNotices_nv (x : NoticeQueue) : (s.withNotices x).nv = s.nv := rfl
@[simp] theorem State.withNotices_log (x : NoticeQueue) : (s.withNotices x).log = s.log := rfl
@[simp] theorem State.withNotices_link (x : NoticeQueue) : (s.withNotices x).link = s.link := rfl
@[simp] theorem State.withNotices_notices (x : NoticeQueue) : (s.withNotices x).notices = x := rfl
@[simp] theorem State.withNotices_startup (x : NoticeQueue) : (s.withNotices x).startup = s.startup := rfl
@[simp] theorem State.withNotices_pins (x : NoticeQueue) : (s.withNotices x).pins = s.pins := rfl
@[simp] theorem State.withNotices_pending (x : NoticeQueue) : (s.withNotices x).pending = s.pending := rfl

/-! ## withStartup -/

@[simp] theorem State.withStartup_channels (x : StartUp) : (s.withStartup x).channels = s.channels := rfl
@[simp] theorem State.withStartup_targets (x : StartUp) : (s.withStartup x).targets = s.targets := rfl
@[simp] theorem State.withStartup_drive (x : StartUp) : (s.withStartup x).drive = s.drive := rfl
@[simp] theorem State.withStartup_scanner (x : StartUp) : (s.withStartup x).scanner = s.scanner := rfl
@[simp] theorem State.withStartup_seq (x : StartUp) : (s.withStartup x).seq = s.seq := rfl
@[simp] theorem State.withStartup_store (x : StartUp) : (s.withStartup x).store = s.store := rfl
@[simp] theorem State.withStartup_nv (x : StartUp) : (s.withStartup x).nv = s.nv := rfl
@[simp] theorem State.withStartup_log (x : StartUp) : (s.withStartup x).log = s.log := rfl
@[simp] theorem State.withStartup_link (x : StartUp) : (s.withStartup x).link = s.link := rfl
@[simp] theorem State.withStartup_notices (x : StartUp) : (s.withStartup x).notices = s.notices := rfl
@[simp] theorem State.withStartup_startup (x : StartUp) : (s.withStartup x).startup = x := rfl
@[simp] theorem State.withStartup_pins (x : StartUp) : (s.withStartup x).pins = s.pins := rfl
@[simp] theorem State.withStartup_pending (x : StartUp) : (s.withStartup x).pending = s.pending := rfl

/-! ## withPins -/

@[simp] theorem State.withPins_channels (x : Pins) : (s.withPins x).channels = s.channels := rfl
@[simp] theorem State.withPins_targets (x : Pins) : (s.withPins x).targets = s.targets := rfl
@[simp] theorem State.withPins_drive (x : Pins) : (s.withPins x).drive = s.drive := rfl
@[simp] theorem State.withPins_scanner (x : Pins) : (s.withPins x).scanner = s.scanner := rfl
@[simp] theorem State.withPins_seq (x : Pins) : (s.withPins x).seq = s.seq := rfl
@[simp] theorem State.withPins_store (x : Pins) : (s.withPins x).store = s.store := rfl
@[simp] theorem State.withPins_nv (x : Pins) : (s.withPins x).nv = s.nv := rfl
@[simp] theorem State.withPins_log (x : Pins) : (s.withPins x).log = s.log := rfl
@[simp] theorem State.withPins_link (x : Pins) : (s.withPins x).link = s.link := rfl
@[simp] theorem State.withPins_notices (x : Pins) : (s.withPins x).notices = s.notices := rfl
@[simp] theorem State.withPins_startup (x : Pins) : (s.withPins x).startup = s.startup := rfl
@[simp] theorem State.withPins_pins (x : Pins) : (s.withPins x).pins = x := rfl
@[simp] theorem State.withPins_pending (x : Pins) : (s.withPins x).pending = s.pending := rfl

/-! ## withTargets -/

@[simp] theorem State.withTargets_channels (x : Quad Nat) : (s.withTargets x).channels = s.channels := rfl
@[simp] theorem State.withTargets_targets (x : Quad Nat) : (s.withTargets x).targets = x := rfl
@[simp] theorem State.withTargets_drive (x : Quad Nat) : (s.withTargets x).drive = s.drive := rfl
@[simp] theorem State.withTargets_scanner (x : Quad Nat) : (s.withTargets x).scanner = s.scanner := rfl
@[simp] theorem State.withTargets_seq (x : Quad Nat) : (s.withTargets x).seq = s.seq := rfl
@[simp] theorem State.withTargets_store (x : Quad Nat) : (s.withTargets x).store = s.store := rfl
@[simp] theorem State.withTargets_nv (x : Quad Nat) : (s.withTargets x).nv = s.nv := rfl
@[simp] theorem State.withTargets_log (x : Quad Nat) : (s.withTargets x).log = s.log := rfl
@[simp] theorem State.withTargets_link (x : Quad Nat) : (s.withTargets x).link = s.link := rfl
@[simp] theorem State.withTargets_notices (x : Quad Nat) : (s.withTargets x).notices = s.notices := rfl
@[simp] theorem State.withTargets_startup (x : Quad Nat) : (s.withTargets x).startup = s.startup := rfl
@[simp] theorem State.withTargets_pins (x : Quad Nat) : (s.withTargets x).pins = s.pins := rfl
@[simp] theorem State.withTargets_pending (x : Quad Nat) : (s.withTargets x).pending = s.pending := rfl

/-! ## elapse -/

@[simp] theorem State.elapse_channels (d : Nat) : (s.elapse d).channels = s.channels.map (Channel.elapse d) := rfl
@[simp] theorem State.elapse_targets (d : Nat) : (s.elapse d).targets = s.targets := rfl
@[simp] theorem State.elapse_drive (d : Nat) :
    (s.elapse d).drive = s.drive.map fun x => { x with tick := x.tick.elapse d } := rfl
@[simp] theorem State.elapse_scanner (d : Nat) : (s.elapse d).scanner = s.scanner := rfl
@[simp] theorem State.elapse_seq (d : Nat) : (s.elapse d).seq = { s.seq with timer := s.seq.timer.elapse d } := rfl
@[simp] theorem State.elapse_store (d : Nat) : (s.elapse d).store = { s.store with idle := s.store.idle.elapse d } := rfl
@[simp] theorem State.elapse_nv (d : Nat) :
    (s.elapse d).nv = { s.nv with op := s.nv.op.map fun o => { o with write := o.write.elapse d } } := rfl
@[simp] theorem State.elapse_log (d : Nat) : (s.elapse d).log = s.log := rfl
@[simp] theorem State.elapse_link (d : Nat) : (s.elapse d).link = { s.link with
    gap := s.link.gap.elapse d, lowLine := s.link.lowLine.elapse d, lockout := s.link.lockout.elapse d } := rfl
@[simp] theorem State.elapse_notices (d : Nat) :
    (s.elapse d).notices = { s.notices with ack := s.notices.ack.elapse d } := rfl
@[simp] theorem State.elapse_startup (d : Nat) : (s.elapse d).startup = s.startup.elapse d := rfl
@[simp] theorem State.elapse_pins (d : Nat) : (s.elapse d).pins = s.pins := rfl
@[simp] theorem State.elapse_pending (d : Nat) : (s.elapse d).pending = s.pending := rfl

/-! ## move -/

variable (n : Chan) (st : ChState)

@[simp] theorem State.move_channels :
    (s.move n st).channels = s.channels.set n ((s.channels.get n).enter st (s.prof n)) := rfl
@[simp] theorem State.move_targets : (s.move n st).targets = s.targets := rfl
@[simp] theorem State.move_drive :
    (s.move n st).drive = s.drive.set n ((s.drive.get n).orderFor st (s.prof n).park) := rfl
@[simp] theorem State.move_scanner : (s.move n st).scanner =
    { s.scanner with tallies := s.scanner.tallies.set n (s.talliesOnEntry n st) } := rfl
@[simp] theorem State.move_seq : (s.move n st).seq = s.seqOnEntry n st := rfl
@[simp] theorem State.move_store : (s.move n st).store = s.store := rfl
@[simp] theorem State.move_nv : (s.move n st).nv = s.nv := rfl
@[simp] theorem State.move_log : (s.move n st).log = s.logOnEntry n st := rfl
@[simp] theorem State.move_link : (s.move n st).link = s.link := rfl
@[simp] theorem State.move_notices : (s.move n st).notices = s.notices := rfl
@[simp] theorem State.move_startup : (s.move n st).startup = s.startup := rfl
@[simp] theorem State.move_pins : (s.move n st).pins = s.pins := rfl
@[simp] theorem State.move_pending : (s.move n st).pending = s.pending := rfl

/-- Two states are equal when their fields are. -/
theorem State.eq_of_fields {s t : State} (h1 : s.channels = t.channels) (h2 : s.targets = t.targets) (h3 : s.drive = t.drive)
    (h4 : s.scanner = t.scanner) (h5 : s.seq = t.seq) (h6 : s.store = t.store) (h7 : s.nv = t.nv) (h8 : s.log = t.log)
    (h9 : s.link = t.link) (h10 : s.notices = t.notices) (h11 : s.startup = t.startup) (h12 : s.pins = t.pins)
    (h13 : s.pending = t.pending) : s = t := by
  cases s
  cases t
  simp_all

/-! ## post -/

variable (body : NoticeBody)

@[simp] theorem State.post_channels : (s.post body).channels = s.channels := rfl
@[simp] theorem State.post_targets : (s.post body).targets = s.targets := rfl
@[simp] theorem State.post_drive : (s.post body).drive = s.drive := rfl
@[simp] theorem State.post_scanner : (s.post body).scanner = s.scanner := rfl
@[simp] theorem State.post_seq : (s.post body).seq = s.seq := rfl
@[simp] theorem State.post_store : (s.post body).store = s.store := rfl
@[simp] theorem State.post_nv : (s.post body).nv = s.nv := rfl
@[simp] theorem State.post_log : (s.post body).log = s.log := rfl
@[simp] theorem State.post_link : (s.post body).link = s.link := rfl
@[simp] theorem State.post_notices : (s.post body).notices = s.notices.post body := rfl
@[simp] theorem State.post_startup : (s.post body).startup = s.startup := rfl
@[simp] theorem State.post_pins : (s.post body).pins = s.pins := rfl
@[simp] theorem State.post_pending : (s.post body).pending = s.pending := rfl

end Sys2Proof.Machine
end

