-- ==== Sys2Proof/Laws/Channels.lean ====
section
/-! SUPPORT. What the operations on one channel can do, each said once with `State.MovesOnly`: the path the channel takes, the
notices of that path, and that nothing else changes. -/

namespace Sys2Proof.Machine

/-! ## Notices -/

/-- R156: the three things that posting a notice can do. -/
theorem NoticeQueue.post_cases (q : NoticeQueue) (body : NoticeBody) :
    (q.admits body.kind = false ∧ q.post body = q)
    ∨ (q.admits body.kind = true ∧ 16 ≤ q.queue.length ∧ q.post body = { q with queue := countLost q.queue })
    ∨ (q.admits body.kind = true ∧ q.queue.length < 16
      ∧ q.post body = { q with queue := q.queue ++ [⟨body, q.nextSeq, 0, false⟩], nextSeq := q.nextSeq + 1 }) := by
  unfold NoticeQueue.post
  by_cases hk : q.admits body.kind = true
  · by_cases hl : 16 ≤ q.queue.length
    · exact .inr (.inl ⟨hk, hl, by simp [hk, hl, Config.noticeCapacity]⟩)
    · exact .inr (.inr ⟨hk, by omega, by simp [hk, hl, Config.noticeCapacity]⟩)
  · exact .inl ⟨by simpa using hk, by simp [hk]⟩

@[simp] theorem NoticeQueue.postAll_nil (q : NoticeQueue) : q.postAll [] = q := rfl

@[simp] theorem NoticeQueue.postAll_cons (q : NoticeQueue) (b : NoticeBody) (l : List NoticeBody) :
    q.postAll (b :: l) = (q.post b).postAll l := rfl

theorem NoticeQueue.postAll_append (q : NoticeQueue) (l m : List NoticeBody) : q.postAll (l ++ m) = (q.postAll l).postAll m := by
  simp [NoticeQueue.postAll, List.foldl_append]

/-! ## The view of a channel -/

variable (s : State) (n m : Chan) (st : ChState) (cause : Cause)

@[simp] theorem State.view_post (b : NoticeBody) : (s.post b).view m = s.view m := rfl

@[simp] theorem State.view_withNotices (x : NoticeQueue) : (s.withNotices x).view m = s.view m := rfl

@[simp] theorem State.view_withLink (x : Link) : (s.withLink x).view m = s.view m := rfl

@[simp] theorem State.view_withPins (x : Pins) : (s.withPins x).view m = s.view m := rfl

@[simp] theorem State.view_withStore (x : ProfileStore) : (s.withStore x).view m = s.view m := rfl

@[simp] theorem State.view_setChan_self (c : Channel) : (s.setChan n c).view n = { s.view n with chan := c } := by
  simp [State.view]

theorem State.view_setChan_of_ne (c : Channel) (h : m ≠ n) : (s.setChan n c).view m = s.view m := by
  simp [State.view, Quad.get_set_of_ne _ _ h]

@[simp] theorem State.view_setDrive_self (d : DriveStage) : (s.setDrive n d).view n = { s.view n with drive := d } := by
  simp [State.view]

theorem State.view_setDrive_of_ne (d : DriveStage) (h : m ≠ n) : (s.setDrive n d).view m = s.view m := by
  simp [State.view, Quad.get_set_of_ne _ _ h]

/-- R91: the records of the channel's points when it enters a state. -/
theorem State.seqOnEntry_self : (s.seqOnEntry n st).records.chans.get n =
    if (s.channels.get n).state = .active ∧ st ≠ .active then
      ⟨(s.seq.records.chans.get n).cur.quiet, (s.seq.records.chans.get n).fwd.quiet, (s.seq.records.chans.get n).ref.quiet⟩
    else s.seq.records.chans.get n := by
  unfold State.seqOnEntry
  split <;> simp [Sequencer.clearWarnings]

theorem State.seqOnEntry_of_ne (h : m ≠ n) :
    (s.seqOnEntry n st).records.chans.get m = s.seq.records.chans.get m := by
  unfold State.seqOnEntry
  split <;> simp [Sequencer.clearWarnings, Quad.get_set_of_ne _ _ h]

/-- R143: the ramp-entry uptime and the marks when a channel enters a state. -/
theorem State.logOnEntry_self :
    (s.logOnEntry n st).rampEntry.get n = (if st = .ramping then some s.startup.uptime else s.log.rampEntry.get n)
    ∧ (s.logOnEntry n st).marks.get n = (if st = .ramping then
        ⟨freshMark (s.seq.records.chans.get n).cur s.startup.uptime, freshMark (s.seq.records.chans.get n).fwd s.startup.uptime,
          freshMark (s.seq.records.chans.get n).ref s.startup.uptime⟩
      else s.log.marks.get n) := by
  unfold State.logOnEntry
  split <;> simp [FaultLog.rampEntered]

theorem State.logOnEntry_of_ne (h : m ≠ n) : (s.logOnEntry n st).rampEntry.get m = s.log.rampEntry.get m
    ∧ (s.logOnEntry n st).marks.get m = s.log.marks.get m := by
  unfold State.logOnEntry
  split <;> simp [FaultLog.rampEntered, Quad.get_set_of_ne _ _ h]

/-- Entering a state does to a channel's view what `ChanView.enters` says; an entry into QUALIFYING also sets the set. -/
theorem State.view_move_self (w : WaitSet) :
    (s.view n).enters (s.prof n) s.startup.uptime w st
      = { (s.move n st).view n with
          chan := { ((s.move n st).channels.get n) with wait := if st = .qualifying then w else noWait } } := by
  simp only [State.view, ChanView.enters, State.move_channels, State.move_drive, State.move_scanner, State.move_seq,
    State.move_log, Quad.get_set_self, State.talliesOnEntry, State.seqOnEntry_self, (s.logOnEntry_self n st).1,
    (s.logOnEntry_self n st).2]
  rfl

theorem State.view_move_of_ne (h : m ≠ n) : (s.move n st).view m = s.view m := by
  simp only [State.view, State.move_channels, State.move_drive, State.move_scanner, State.move_seq, State.move_log,
    Quad.get_set_of_ne _ _ h, s.seqOnEntry_of_ne n m st h, (s.logOnEntry_of_ne n m st h).1, (s.logOnEntry_of_ne n m st h).2]

/-! ## What a move leaves alone -/

theorem State.SameElsewhere.refl : s.SameElsewhere s := by constructor <;> simp

theorem State.SameElsewhere.trans {s t u : State} (h : s.SameElsewhere t) (k : t.SameElsewhere u) : s.SameElsewhere u := by
  cases h
  cases k
  constructor <;> simp_all

theorem State.SameLog.trans {s t u : State} (h : s.SameLog t) (k : t.SameLog u) : s.SameLog u :=
  ⟨k.1.trans h.1, k.2.trans h.2⟩

theorem State.move_sameElsewhere : s.SameElsewhere (s.move n st) := by
  constructor <;> simp [State.seqOnEntry] <;> split <;> simp [Sequencer.clearWarnings]

theorem State.move_sameLog : s.SameLog (s.move n st) := by
  constructor <;> simp [State.logOnEntry] <;> split <;> simp [FaultLog.rampEntered]

/-- What a channel consults when it moves is the same once the rest of the part is the same. -/
theorem State.SameElsewhere.prof {s t : State} (h : s.SameElsewhere t) (n : Chan) : t.prof n = s.prof n := by
  simp [State.prof, h.store]

theorem State.SameElsewhere.waitReasons {s t : State} (h : s.SameElsewhere t) (n : Chan) :
    t.waitReasons n = s.waitReasons n := by
  simp [State.waitReasons, h.prof n, State.tempValid, h.conditions, h.records, h.store]

theorem State.SameElsewhere.follow {s t : State} (h : s.SameElsewhere t) (n : Chan) (v : ChanView) (path : Path) :
    t.follow n v path = s.follow n v path := by
  simp [State.follow, h.prof n, h.startup, h.waitReasons n]

/-! ## Moves -/

/-- Nothing happens: the empty path. -/
theorem State.MovesOnly.refl : s.MovesOnly s n (s.view n) [] :=
  ⟨rfl, fun _ _ => rfl, rfl, .refl s, rfl, rfl⟩

/-- One path after another. -/
theorem State.MovesOnly.trans {s t u : State} {n : Chan} {v : ChanView} {p q : Path} (h : s.MovesOnly t n v p)
    (k : t.MovesOnly u n (t.view n) q)
    (hn : s.noticesOf n (p ++ q) = s.noticesOf n p ++ t.noticesOf n q) : s.MovesOnly u n v (p ++ q) where
  moved := by
    rw [k.moved, h.moved, h.elsewhere.follow]
    simp [State.follow, List.foldl_append]
  others := fun m hm => (k.others m hm).trans (h.others m hm)
  told := by rw [k.told, h.told, hn, NoticeQueue.postAll_append]
  elsewhere := h.elsewhere.trans k.elsewhere
  log := h.log.trans k.log

/-- R2: a transition. -/
theorem State.transition_movesOnly (h : st ≠ .qualifying) :
    s.MovesOnly (s.transition n st cause) n (s.view n) [(st, cause)] where
  moved := by
    simp only [State.transition, State.view_post, State.follow, List.foldl_cons, List.foldl_nil]
    rw [State.view_move_self]
    simp [h, State.view, Channel.enter]
  others := fun m hm => s.view_move_of_ne n m st hm
  told := by simp [State.transition, State.noticesOf, pathNotices, h]
  elsewhere := (s.move_sameElsewhere n st).trans (by constructor <;> simp [State.transition])
  log := s.move_sameLog n st

/-- R7: the entry into QUALIFYING. -/
theorem State.enterQualifying_movesOnly :
    s.MovesOnly (s.enterQualifying n cause) n (s.view n) (s.qualifyPath n cause) := by
  have first : s.MovesOnly (((s.move n .qualifying).setWait n (s.waitReasons n)).post
      (.channel n (s.channels.get n).state .qualifying cause (some (s.waitReasons n)))) n (s.view n)
      [(.qualifying, cause)] :=
    { moved := by
        simp only [State.view_post, State.follow, List.foldl_cons, List.foldl_nil, State.setWait, State.view_setChan_self]
        rw [State.view_move_self]
        simp
      others := fun m hm => by
        rw [State.view_post, State.setWait, State.view_setChan_of_ne _ _ _ _ hm, State.view_move_of_ne _ _ _ _ hm]
      told := by simp [State.noticesOf, pathNotices, State.setWait]
      elsewhere := (s.move_sameElsewhere n .qualifying).trans (by constructor <;> simp [State.setWait])
      log := s.move_sameLog n .qualifying }
  unfold State.enterQualifying State.qualifyPath
  by_cases hw : (s.waitReasons n).isEmpty = true
  · simp only [hw, if_true]
    refine State.MovesOnly.trans first (State.transition_movesOnly _ n .ramping .ready (by decide)) ?_
    simp [State.noticesOf, pathNotices, State.setWait, Channel.enter]
  · simp only [hw]
    exact first

/-- R14, R17, R30. -/
theorem State.startWanted_movesOnly : s.MovesOnly (s.startWanted n cause) n (s.view n) (s.wantedPath n cause) := by
  unfold State.startWanted State.wantedPath
  by_cases h : s.holdEffective n = true
  · simpa [h] using s.transition_movesOnly n .held cause (by decide)
  · simpa [h] using s.enterQualifying_movesOnly n cause

/-- R5. -/
theorem State.holdCeases_movesOnly : s.MovesOnly (s.holdCeases n) n (s.view n) (s.releasePath n) := by
  unfold State.holdCeases State.releasePath
  by_cases h : (s.channels.get n).state = .held
  · simpa [h] using s.enterQualifying_movesOnly n .release
  · simpa [h] using State.MovesOnly.refl s n

/-- R27. -/
theorem State.supplyLost_movesOnly : s.MovesOnly (s.supplyLost n) n (s.view n) (s.supplyLostPath n) := by
  unfold State.supplyLost State.supplyLostPath
  cases (s.channels.get n).state
  case ramping => exact s.enterQualifying_movesOnly n .supply
  case active => exact s.enterQualifying_movesOnly n .supply
  case windingDown => exact s.transition_movesOnly n .disabled .supply (by decide)
  all_goals exact State.MovesOnly.refl s n

/-- A channel's own values change before it moves: the move starts from the changed view. -/
theorem State.MovesOnly.afterSetChan {s t : State} {n : Chan} {c : Channel} {p : Path}
    (h : (s.setChan n c).MovesOnly t n { s.view n with chan := c } p) (hc : c.state = (s.channels.get n).state) :
    s.MovesOnly t n { s.view n with chan := c } p where
  moved := by
    rw [h.moved]
    rfl
  others := fun m hm => (h.others m hm).trans (s.view_setChan_of_ne n m c hm)
  told := by
    rw [h.told]
    simp [State.noticesOf, hc]
    rfl
  elsewhere := State.SameElsewhere.trans (by constructor <;> simp) h.elsewhere
  log := h.log

/-- R4, with R26: hold becomes effective; a lock that it clears has its retry count set to 0. -/
theorem State.holdBecomesEffective_movesOnly :
    s.MovesOnly (s.holdBecomesEffective n) n
      { s.view n with chan := { s.channels.get n with
        retryCount := if (s.channels.get n).state = .locked ∧ (s.prof n).holdClearsLock = true then 0
          else (s.channels.get n).retryCount } }
      (s.holdPath n) := by
  have same : ({ s.view n with chan := { s.channels.get n with retryCount := (s.channels.get n).retryCount } } : ChanView)
      = s.view n := rfl
  unfold State.holdBecomesEffective State.holdPath
  cases hs : (s.channels.get n).state
  case qualifying => simpa [same] using s.transition_movesOnly n .held .hold (by decide)
  case ramping => simpa [same] using s.transition_movesOnly n .held .hold (by decide)
  case active => simpa [same] using s.transition_movesOnly n .held .hold (by decide)
  case tripped => simpa [same] using s.transition_movesOnly n .held .hold (by decide)
  case windingDown => simpa [same] using s.transition_movesOnly n .disabled .hold (by decide)
  case disabled => simpa [same] using State.MovesOnly.refl s n
  case held => simpa [same] using State.MovesOnly.refl s n
  case locked =>
    by_cases hc : (s.prof n).holdClearsLock = true
    · simp only [hc, and_self, if_true]
      refine State.MovesOnly.afterSetChan ?_ (by simp)
      have := (s.setRetryCount n 0).transition_movesOnly n .held .hold (by decide)
      simpa [State.setRetryCount] using this
    · simpa [hc, same] using State.MovesOnly.refl s n

/-! ## Several channels -/

/-- What a channel's own work depends on: the rest of the part, and what the part holds about that channel. -/
def DependsOnView {α : Type} (f : State → Chan → α) : Prop :=
  ∀ s t n, s.SameElsewhere t → t.view n = s.view n → f t n = f s n

theorem State.noticesOf_congr {s t : State} {n : Chan} (h : s.SameElsewhere t) (hv : t.view n = s.view n) (p : Path) :
    t.noticesOf n p = s.noticesOf n p := by
  have hc : t.channels.get n = s.channels.get n := congrArg ChanView.chan hv
  simp [State.noticesOf, h.waitReasons n, hc]

/-- R13: work on each named channel of a list, ascending: each moves as if it were alone. -/
theorem nameChan_foldl (mask : Byte) (work : State → Chan → State × ChanResult) (v : State → Chan → ChanView)
    (path : State → Chan → Path) (moves : ∀ (s : State) (n : Chan), s.MovesOnly (work s n).1 n (v s n) (path s n)) (hv : DependsOnView v)
    (hp : DependsOnView path) (hr : DependsOnView fun s n => (work s n).2) :
    ∀ (l : List Chan) (s : State) (done : List ChanResult), l.Nodup →
      let r := l.foldl (nameChan mask work) (s, done)
      (∀ n, r.1.view n =
        if n ∈ l ∧ mask.getLsbD n.val = true then s.follow n (v s n) (path s n) else s.view n)
      ∧ r.1.notices = s.notices.postAll (l.flatMap fun n => if mask.getLsbD n.val then s.noticesOf n (path s n) else [])
      ∧ s.SameElsewhere r.1 ∧ s.SameLog r.1
      ∧ r.2 = done ++ (l.filter fun n => mask.getLsbD n.val).map fun n => (work s n).2 := by
  intro l
  induction l with
  | nil => intro s done _; simpa using ⟨State.SameElsewhere.refl s, rfl, rfl⟩
  | cons a l ih =>
    intro s done hd
    obtain ⟨hal, hl⟩ := List.nodup_cons.mp hd
    by_cases hm : mask.getLsbD a.val = true
    · have ma := moves s a
      obtain ⟨h1, h2, h3, h4, h5⟩ := ih (work s a).1 (done ++ [(work s a).2]) hl
      have hne : ∀ n ∈ l, n ≠ a := fun n hn e => hal (e ▸ hn)
      have same : ∀ n ∈ l, (work s a).1.view n = s.view n := fun n hn => ma.others n (hne n hn)
      simp only [List.foldl_cons, nameChan, hm, if_true]
      refine ⟨fun n => ?_, ?_, ma.elsewhere.trans h3, ma.log.trans h4, ?_⟩
      · rw [h1 n]
        by_cases hn : n ∈ l
        · simp only [hn, true_and, List.mem_cons, or_true]
          split
          · rw [ma.elsewhere.follow, hv _ _ _ ma.elsewhere (same n hn), hp _ _ _ ma.elsewhere (same n hn)]
          · exact same n hn
        · by_cases hna : n = a
          · subst hna
            simp [hn, hm, ma.moved]
          · simp [hn, hna, ma.others n hna]
      · rw [h2, ma.told]
        simp only [List.flatMap_cons, hm, if_true, NoticeQueue.postAll_append]
        congr 1
        apply List.flatMap_congr
        intro n hn
        rw [hp _ _ _ ma.elsewhere (same n hn), State.noticesOf_congr ma.elsewhere (same n hn)]
      · rw [h5]
        simp only [List.filter_cons, hm, if_true, List.map_cons, List.append_assoc, List.singleton_append]
        congr 2
        apply List.map_congr_left
        intro n hn
        exact hr _ _ _ ma.elsewhere (same n (List.mem_of_mem_filter hn))
    · have hm' : mask.getLsbD a.val = false := by simpa using hm
      have step : nameChan mask work (s, done) a = (s, done) := by simp [nameChan, hm']
      obtain ⟨h1, h2, h3, h4, h5⟩ := ih s done hl
      simp only [List.foldl_cons, step]
      refine ⟨fun n => ?_, ?_, h3, h4, ?_⟩
      · rw [h1 n]
        by_cases hna : n = a
        · subst hna
          simp [hm']
        · simp [hna]
      · rw [h2]
        simp [hm']
      · rw [h5]
        simp [hm']

end Sys2Proof.Machine
end

