-- ==== Sys2Proof/Laws/Link.lean ====
section
/-! SUPPORT. What the link's operations can do: the transmitter's choice, the receipt of a request, the execution of one that is
served as it arrives; and what the power events leave in the cause and the pins. -/

namespace Sys2Proof.Machine

/-- Section 10.10: the codes of the index are distinct, so a request's code names it. -/
@[simp] theorem requestOfCode_code (r : RequestName) : requestOfCode r.code = some r := by cases r <;> decide

/-- A request's row is the receipt of its frame. -/
theorem exec_requestCommand (r : RequestName) (tag : Byte) (payload : List Byte) (s : State) :
    exec (requestCommand r tag payload) s = .next (s.receiveRequest r.code tag payload) := by cases r <;> rfl

/-- R177: the three things the transmitter's choice can do, and that a transmitter that sends goes on. -/
theorem State.settle_cases (s : State) :
    (s.link.tx ≠ .idle ∧ s.settle = s)
    ∨ (s.link.tx = .idle ∧ ∃ r, s.link.readyReply = some r ∧ s.settle = s.beginReply r)
    ∨ (s.link.tx = .idle ∧ s.link.readyReply = none ∧ ∃ n, s.offered = some n ∧ s.settle = s.beginNotice n)
    ∨ (s.link.tx = .idle ∧ s.link.readyReply = none ∧ s.offered = none ∧ s.settle = s) := by
  unfold State.settle State.choose
  by_cases h : s.link.tx = .idle
  · cases hr : s.link.readyReply with
    | some r => exact .inr (.inl ⟨h, r, rfl, by simp [h]⟩)
    | none =>
      cases ho : s.offered with
      | some n => exact .inr (.inr (.inl ⟨h, rfl, n, rfl, by simp [h]⟩))
      | none => exact .inr (.inr (.inr ⟨h, rfl, rfl, by simp [h]⟩))
  · exact .inl ⟨h, by simp [h]⟩

/-- R177: whatever the choice, only the link's transmitter and cache and the notices' markings move. -/
theorem State.settle_frame (s : State) :
    s.settle = { s with
      link := { s.link with tx := s.settle.link.tx, cache := s.settle.link.cache }
      notices := { s.notices with queue := s.settle.notices.queue } } := by
  rcases s.settle_cases with ⟨_, h⟩ | ⟨_, r, _, h⟩ | ⟨_, _, n, _, h⟩ | ⟨_, _, _, h⟩ <;> rw [h] <;> rfl

/-- R173, R174: the state in which a request that is served as it arrives finds the part: the receiver hunts, RXD stands high,
and its entry is in service. -/
def State.asked (s : State) (r : RequestName) (tag : Byte) (payload : List Byte) : State :=
  { s with
    pins := { s.pins with rxdLow := false }
    link := { s.link with
      phase := .hunt
      collected := []
      gap := .stopped
      lowLine := .stopped
      queue := [newEntry r.code tag payload .execute] } }

/-- R174: a request that is served as it arrives is judged in the state `State.asked`, and its reply begins. -/
theorem exec_servesAtOnce {s : State} (h : s.ServesAtOnce) (r : RequestName) (tag : Byte) (payload : List Byte) :
    exec (requestCommand r tag payload) s = .next (((serveExecute r.code tag payload (s.asked r tag payload)).1.withQueue
      [{ newEntry r.code tag payload .execute with
         reply := some (serveExecute r.code tag payload (s.asked r tag payload)).2 }]).settle) := by
  rw [exec_requestCommand, State.receiveRequest, if_pos h.hears]
  have hq : (s.rxdHigh.hunt.withQueue (placeRequest r.code tag payload s.rxdHigh.hunt.link.queue))
      = s.asked r tag payload := by
    simp [State.rxdHigh, State.hunt, State.withQueue, State.asked, State.withLink, State.withPins, placeRequest, h.empty,
      countMark, Config.maxExecute]
  rw [State.handOn, hq]
  simp [State.serveHead, State.asked, newEntry, serveEntry]

/-- R174 step 7: an executed request is handed to its owner, and the reply the owner composes begins. The owner's work is
stated on the state with the request's entry in service, and the result in `State.answered`. -/
theorem exec_executes {s : State} {r : RequestName} {tag : Byte} {payload : List Byte} (h : s.Executes r tag payload)
    (t : State) (a : Answer) (owner : ownerServes r payload (s.asked r tag payload) = (t.asked r tag payload, a))
    (hr : answerResets r.code a = false) :
    exec (requestCommand r tag payload) s = .next (t.answered r tag payload a.bytes) := by
  have hrep : (s.asked r tag payload).link.replayFor r.code tag = none := h.fresh
  have hrun : (s.asked r tag payload).startup.phase = .running := h.running
  have hk : serveKnown r payload (s.asked r tag payload) = (t.asked r tag payload, a) := by
    unfold serveKnown
    have h1 : (!(s.asked r tag payload).link.opened && !r.servedClosed) = false := by
      rcases h.session with hs | hs <;> simp [State.asked, hs]
    have h2 : ¬(r.level.code > (s.asked r tag payload).link.level.code) := by
      have := h.level
      simp only [State.asked]
      omega
    have h3 : (!r.lengthOk payload) = false := by simp [h.length]
    simp only [h1, if_neg h2, h3]
    exact owner
  have he : serveExecute r.code tag payload (s.asked r tag payload)
      = (t.asked r tag payload, ⟨r.code, tag, a.bytes, true, false⟩) := by
    simp [serveExecute, hrep, hrun, serveRunning, hk, hr]
  rw [exec_servesAtOnce h.atOnce, he]
  congr 1
  unfold State.settle
  by_cases hi : t.link.tx = .idle <;>
    simp [State.withQueue, State.withLink, State.asked, hi, State.choose, Link.readyReply, newEntry, State.beginReply,
      Link.cacheFor, State.answered, Link.answered]

/-! ## Power events (R188) -/

@[simp] theorem Pins.resetCause_good {p : Pins} (h : p.supplyGood = true) : p.resetCause = .pin := by simp [Pins.resetCause, h]
@[simp] theorem Pins.resetCause_lost {p : Pins} (h : p.supplyGood = false) : p.resetCause = .power := by simp [Pins.resetCause, h]
@[simp] theorem State.supplyFails_startup (s : State) : s.supplyFails.startup = ⟨.resetHeld, .power, 0⟩ := rfl
@[simp] theorem State.supplyFails_pins (s : State) : s.supplyFails.pins = { s.pins with supplyGood := false } := rfl
@[simp] theorem State.resetPinTaken_startup (s : State) : s.resetPinTaken.startup = ⟨.resetHeld, s.pins.resetCause, 0⟩ := rfl
@[simp] theorem State.resetPinTaken_pins (s : State) : s.resetPinTaken.pins = { s.pins with reset := true } := rfl
@[simp] theorem State.resetReleased_pins (s : State) :
    s.resetReleased.pins = { s.pins with reset := false, supplyGood := true } := rfl

end Sys2Proof.Machine
end

