-- ==== Sys2Proof/Laws/PerInstr.lean ====
section
/-! SUPPORT. The family FitsAFrame: what a well-formed command's payload is on the line. A payload of at most 117 bytes travels
behind a length byte that states it exactly, within the bounds R166 sets. -/

namespace Sys2Proof.Laws

open Sys2Proof.Machine

/-- A frame of this payload, whatever its class, code and tag: the marker, a length byte of 3 to 120 that counts the payload and
three bytes more, and at most 124 bytes in all (R166). -/
def StatesItsLength (payload : List Byte) : Prop :=
  ∀ cls code tag : Byte, ∃ (len : Byte) (rest : List Byte),
    frameBytes cls code tag payload = 0xD3#8 :: len :: rest
    ∧ len.toNat = payload.length + 3 ∧ 3 ≤ len.toNat ∧ len.toNat ≤ 120
    ∧ rest.length = len.toNat + 2 ∧ (frameBytes cls code tag payload).length ≤ 124

/-- R166: a payload that fits a frame is stated by its length byte. -/
theorem statesItsLength_of_fits (payload : List Byte) (h : fitsAFrame payload = true) : StatesItsLength payload := by
  have fits : payload.length ≤ 117 := of_decide_eq_true h
  intro cls code tag
  refine ⟨byteOf (payload.length + 3), _, rfl, ?_⟩
  simp [frameBytes, frameBody, crcBytes, le16, byteOf]
  omega

/-- The family: a well-formed command that travels in a frame states its length in it. -/
def FitsAFrame.Statement (i : Instr) : Prop :=
  i.wellFormed = true → ∀ payload, i.framePayload = some payload → StatesItsLength payload

/-- Every command is of the family: a well-formed one has no payload or one that fits a frame. -/
theorem FitsAFrame.of_wellFormed (i : Instr) : FitsAFrame.Statement i := by
  intro ok payload carries
  simp only [Instr.wellFormed, carries, Option.all_some, Bool.and_eq_true] at ok
  exact statesItsLength_of_fits payload ok.1

theorem FitsAFrame.hello (tag : Byte) (payload : List Byte) : FitsAFrame.Statement (.hello tag payload) := of_wellFormed _
theorem FitsAFrame.bye (tag : Byte) (payload : List Byte) : FitsAFrame.Statement (.bye tag payload) := of_wellFormed _
theorem FitsAFrame.identify (tag : Byte) (payload : List Byte) : FitsAFrame.Statement (.identify tag payload) := of_wellFormed _
theorem FitsAFrame.setLevel (tag : Byte) (payload : List Byte) : FitsAFrame.Statement (.setLevel tag payload) := of_wellFormed _
theorem FitsAFrame.setNoticeMask (tag : Byte) (payload : List Byte) : FitsAFrame.Statement (.setNoticeMask tag payload) := of_wellFormed _
theorem FitsAFrame.ackNotices (tag : Byte) (payload : List Byte) : FitsAFrame.Statement (.ackNotices tag payload) := of_wellFormed _
theorem FitsAFrame.resetPart (tag : Byte) (payload : List Byte) : FitsAFrame.Statement (.resetPart tag payload) := of_wellFormed _
theorem FitsAFrame.enable (tag : Byte) (payload : List Byte) : FitsAFrame.Statement (.enable tag payload) := of_wellFormed _
theorem FitsAFrame.disable (tag : Byte) (payload : List Byte) : FitsAFrame.Statement (.disable tag payload) := of_wellFormed _
theorem FitsAFrame.clear (tag : Byte) (payload : List Byte) : FitsAFrame.Statement (.clear tag payload) := of_wellFormed _
theorem FitsAFrame.softHold (tag : Byte) (payload : List Byte) : FitsAFrame.Statement (.softHold tag payload) := of_wellFormed _
theorem FitsAFrame.channelStatus (tag : Byte) (payload : List Byte) : FitsAFrame.Statement (.channelStatus tag payload) := of_wellFormed _
theorem FitsAFrame.evalCurve (tag : Byte) (payload : List Byte) : FitsAFrame.Statement (.evalCurve tag payload) := of_wellFormed _
theorem FitsAFrame.readScan (tag : Byte) (payload : List Byte) : FitsAFrame.Statement (.readScan tag payload) := of_wellFormed _
theorem FitsAFrame.readPoints (tag : Byte) (payload : List Byte) : FitsAFrame.Statement (.readPoints tag payload) := of_wellFormed _
theorem FitsAFrame.openEdit (tag : Byte) (payload : List Byte) : FitsAFrame.Statement (.openEdit tag payload) := of_wellFormed _
theorem FitsAFrame.abandonEdit (tag : Byte) (payload : List Byte) : FitsAFrame.Statement (.abandonEdit tag payload) := of_wellFormed _
theorem FitsAFrame.putCurve (tag : Byte) (payload : List Byte) : FitsAFrame.Statement (.putCurve tag payload) := of_wellFormed _
theorem FitsAFrame.putChannel (tag : Byte) (payload : List Byte) : FitsAFrame.Statement (.putChannel tag payload) := of_wellFormed _
theorem FitsAFrame.putTrip (tag : Byte) (payload : List Byte) : FitsAFrame.Statement (.putTrip tag payload) := of_wellFormed _
theorem FitsAFrame.putScanList (tag : Byte) (payload : List Byte) : FitsAFrame.Statement (.putScanList tag payload) := of_wellFormed _
theorem FitsAFrame.putWindow (tag : Byte) (payload : List Byte) : FitsAFrame.Statement (.putWindow tag payload) := of_wellFormed _
theorem FitsAFrame.putSupply (tag : Byte) (payload : List Byte) : FitsAFrame.Statement (.putSupply tag payload) := of_wellFormed _
theorem FitsAFrame.putAccessCode (tag : Byte) (payload : List Byte) : FitsAFrame.Statement (.putAccessCode tag payload) := of_wellFormed _
theorem FitsAFrame.putLabel (tag : Byte) (payload : List Byte) : FitsAFrame.Statement (.putLabel tag payload) := of_wellFormed _
theorem FitsAFrame.getProfile (tag : Byte) (payload : List Byte) : FitsAFrame.Statement (.getProfile tag payload) := of_wellFormed _
theorem FitsAFrame.commit (tag : Byte) (payload : List Byte) : FitsAFrame.Statement (.commit tag payload) := of_wellFormed _
theorem FitsAFrame.persist (tag : Byte) (payload : List Byte) : FitsAFrame.Statement (.persist tag payload) := of_wellFormed _
theorem FitsAFrame.revert (tag : Byte) (payload : List Byte) : FitsAFrame.Statement (.revert tag payload) := of_wellFormed _
theorem FitsAFrame.storeStatus (tag : Byte) (payload : List Byte) : FitsAFrame.Statement (.storeStatus tag payload) := of_wellFormed _
theorem FitsAFrame.readLog (tag : Byte) (payload : List Byte) : FitsAFrame.Statement (.readLog tag payload) := of_wellFormed _
theorem FitsAFrame.clearLog (tag : Byte) (payload : List Byte) : FitsAFrame.Statement (.clearLog tag payload) := of_wellFormed _
theorem FitsAFrame.unknownRequest (code : Byte) (tag : Byte) (payload : List Byte) : FitsAFrame.Statement (.unknownRequest code tag payload) := of_wellFormed _
theorem FitsAFrame.overrun (code : Byte) (tag : Byte) (payload : List Byte) : FitsAFrame.Statement (.overrun code tag payload) := of_wellFormed _
theorem FitsAFrame.frameReceived (last : Byte) : FitsAFrame.Statement (.frameReceived last) := of_wellFormed _
theorem FitsAFrame.framingError : FitsAFrame.Statement .framingError := of_wellFormed _
theorem FitsAFrame.gapTimerExpiry : FitsAFrame.Statement .gapTimerExpiry := of_wellFormed _
theorem FitsAFrame.lineBreak : FitsAFrame.Statement .lineBreak := of_wellFormed _
theorem FitsAFrame.breakEnd : FitsAFrame.Statement .breakEnd := of_wellFormed _
theorem FitsAFrame.replyFrameEnd : FitsAFrame.Statement .replyFrameEnd := of_wellFormed _
theorem FitsAFrame.noticeFrameEnd : FitsAFrame.Statement .noticeFrameEnd := of_wellFormed _
theorem FitsAFrame.acknowledgementTimerExpiry : FitsAFrame.Statement .acknowledgementTimerExpiry := of_wellFormed _
theorem FitsAFrame.lockoutTimerExpiry : FitsAFrame.Statement .lockoutTimerExpiry := of_wellFormed _
theorem FitsAFrame.editIdleTimerExpiry : FitsAFrame.Statement .editIdleTimerExpiry := of_wellFormed _
theorem FitsAFrame.holdPinChange (n : Chan) (asserted : Bool) : FitsAFrame.Statement (.holdPinChange n asserted) := of_wellFormed _
theorem FitsAFrame.blankingTimerExpiry (n : Chan) : FitsAFrame.Statement (.blankingTimerExpiry n) := of_wellFormed _
theorem FitsAFrame.stableTimerExpiry (n : Chan) : FitsAFrame.Statement (.stableTimerExpiry n) := of_wellFormed _
theorem FitsAFrame.retryTimerExpiry (n : Chan) : FitsAFrame.Statement (.retryTimerExpiry n) := of_wellFormed _
theorem FitsAFrame.rampTick (n : Chan) : FitsAFrame.Statement (.rampTick n) := of_wellFormed _
theorem FitsAFrame.scanStep (sense : BitVec 10) : FitsAFrame.Statement (.scanStep sense) := of_wellFormed _
theorem FitsAFrame.confirmedTrip (n : Chan) (kind : TripKind) : FitsAFrame.Statement (.confirmedTrip n kind) := of_wellFormed _
theorem FitsAFrame.conversionCompletion (value : Int) : FitsAFrame.Statement (.conversionCompletion value) := of_wellFormed _
theorem FitsAFrame.pageWriteCompletion (matched : Bool) : FitsAFrame.Statement (.pageWriteCompletion matched) := of_wellFormed _
theorem FitsAFrame.power : FitsAFrame.Statement .power := of_wellFormed _
theorem FitsAFrame.resetPinAsserted : FitsAFrame.Statement .resetPinAsserted := of_wellFormed _
theorem FitsAFrame.resetHeldEnd : FitsAFrame.Statement .resetHeldEnd := of_wellFormed _
theorem FitsAFrame.endOfRecall : FitsAFrame.Statement .endOfRecall := of_wellFormed _
theorem FitsAFrame.byteReceived (char : Byte) : FitsAFrame.Statement (.byteReceived char) := of_wellFormed _

end Sys2Proof.Laws
end

