-- ==== Sys2Proof/Tests/Slice0.lean ====
section
/-! SUPPORT. Tests: the smoke test of WellFormed, one small step of every family on values worked out in the spec, and for each
statement of Certificates/Slice0/Obligations.lean with hypotheses a state that meets them, clause by clause. -/

namespace Sys2Proof.Tests

open Sys2Proof Sys2Proof.Machine

/-! ## Helpers -/

/-- The curve, trims, floor and ceiling of section 2.9, with the OC point and retry budget of section 1.14. -/
def chanProfile : ChannelProfile :=
  { factoryChannel with
    usable := true
    curve := [⟨-20, 1200⟩, ⟨25, 1500⟩, ⟨85, 2100⟩, ⟨120, 1900⟩]
    trim := ⟨-480, -60, -40, 0⟩
    floor := 800
    ceiling := 2000
    retryBudget := 2
    oc := ⟨800, 2, .retry⟩
    hr := ⟨700, 3, .retry⟩
    lf := ⟨300, 2, .report⟩ }

/-- The active profile of the tests. -/
def profile : Profile := { factoryProfile with channels := Quad.const chanProfile, generation := 17, accessCode := 77 }

/-- The pins while the supply stands above the operating threshold. -/
def supplied : Pins := { State.reset.pins with supplyGood := true }

/-- A running part with a session OPEN at CALIBRATE, a smoothed supply of 2950 in band 2, a smoothed temperature of 696, and
every channel DISABLED. -/
def ready : State :=
  { State.reset with
    targets := Quad.const 1645
    drive := Quad.const ⟨0, .parked, .stopped⟩
    scanner := { scannerAtReset with scanning := true }
    seq := { sequencerAtReset with
      running := true
      timer := .running 4
      mode := .full
      supplyOk := true
      band := 2
      records :=
        { sequencerAtReset.records with temp := ⟨696, 696, true, .normal, 5⟩, supply := ⟨2950, 2950, true, .normal, 9⟩ } }
    store := ⟨profile, none, .stopped⟩
    link := { State.reset.link with opened := true, level := .calibrate }
    startup := ⟨.running, .power, 10⟩
    pins := supplied }

/-- The part of `ready` at another level. -/
def atLevel (l : Level) (failures : Nat) (lockout : Timer) : State :=
  { ready with link := { ready.link with level := l, failures := failures, lockout := lockout } }

/-- The part of `ready` with an edit open on a copy. -/
def editing (p : Profile) : State := { ready with store := ⟨profile, some p, .running 5000⟩ }

/-- The part of `ready` with its queue of notices. -/
def withNotices (l : List Notice) (next : BitVec 8) (ack : Timer) : State :=
  { ready with notices := { ready.notices with queue := l, nextSeq := next, ack := ack } }

/-- A notice with a sequence number and a marking. -/
def note (seq : BitVec 8) (sent : Bool) : Notice := ⟨.editClosed .bye, seq, 0, sent⟩

/-- Channel 0 in a state, its timers and Drive Stage as given. -/
def withChan (st : ChState) (count : Nat) (blanking : BlankTimer) (retry stable : Timer) (d : DriveStage) : State :=
  (ready.setChan 0 { ready.channels.get 0 with
    state := st, retryCount := count, blanking := blanking, retry := retry, stable := stable }).setDrive 0 d

/-- Channel 0 ACTIVE at its target. -/
def active : State := withChan .active 0 .stopped .stopped (.running 10000) ⟨1645, .track, .running 1⟩

/-- Channel 0 RAMPING. -/
def ramping (blanking : BlankTimer) (output : Nat) : State :=
  withChan .ramping 0 blanking .stopped .stopped ⟨output, .track, .running 1⟩

/-- Channel 0 WINDING_DOWN. -/
def winding (output : Nat) : State := withChan .windingDown 0 .stopped .stopped .stopped ⟨output, .wind, .running 1⟩

/-- Channel 0 TRIPPED with a count. -/
def tripped (count : Nat) : State := withChan .tripped count .stopped (.running 100) .stopped ⟨0, .parked, .stopped⟩

/-- Channel 0 LOCKED with a count. -/
def locked (count : Nat) : State := withChan .locked count .stopped .stopped .stopped ⟨0, .parked, .stopped⟩

/-- The part of `ready` that writes page `page` of a snapshot into slot B, slot A being valid. -/
def persisting (page : Nat) : State :=
  { ready with nv := { ready.nv with
    statusA := ⟨true, 17⟩
    pagesA := ⟨profile, 17, 1, true, true⟩
    op := some ⟨.b, profile, page, .running 5⟩
    pagesWritten := page - 1 } }

/-- The part of `ready` with slot A valid. -/
def slotAValid : State := { persisting 1 with nv := { (persisting 1).nv with op := none, pagesWritten := 0 } }

/-- A fault record of a number. -/
def record (number : BitVec 16) (snapshot : Bool) : FaultRecord :=
  ⟨number, 9000, 0, .oc, .active, .retry, 1, 1645, 1645, 696, 2, 17, if snapshot then some ⟨1, 2, 3⟩ else none⟩

/-- The part of `ready` with records in its log. -/
def logged (l : List FaultRecord) (next : BitVec 16) : State := { ready with log := { logAtReset with records := l, next := next } }

/-- The part of `ready` whose receiver has collected bytes. -/
def collecting (l : List Byte) : State :=
  { ready with link := { ready.link with phase := .collect, collected := l, gap := .running 10 } }

/-- The part of `ready` whose scanner stands at a slot of a list, with the tallies of channel 0. -/
def scanning (list : List PointNumber) (position : Nat) (t : Tallies) : State :=
  { active with
    store := { active.store with active := { profile with scanList := list } }
    scanner := { active.scanner with position := position, tallies := active.scanner.tallies.set 0 t } }

/-- A reply that a transmitter holds, with its entry. -/
def answer (code tag : Byte) : Reply := ⟨code, tag, [0], true, false⟩

/-- An entry in service with that reply. -/
def served (code tag : Byte) : Entry := ⟨code, tag, [], .execute, some (answer code tag)⟩

/-- An entry that waits. -/
def waiting (code tag : Byte) (payload : List Byte) (m : Mark) : Entry := ⟨code, tag, payload, m, none⟩

/-- The part of `ready` that sends the reply of its first entry, with entries behind it. -/
def sending (more : List Entry) : State :=
  { ready with link := { ready.link with queue := served 0x14 10 :: more, tx := .reply (answer 0x14 10) true } }

/-- The state right after RESET_HELD, with slot A valid in its pages. -/
def recalling : State :=
  { State.reset with
    nv := nvAtReset ⟨profile, 18, 1, true, true⟩ blankPages
    startup := ⟨.recalling, .power, 0⟩
    pins := supplied }

/-- The state a command leaves. -/
def after (i : Instr) (s : State) : State :=
  match exec i s with
  | .next t => t
  | .fault _ => s
  | .refused _ => s

/-- The payload of the reply that the transmitter holds. -/
def reply (s : State) : List Byte :=
  match s.link.tx with
  | .reply r _ => r.payload
  | .idle | .notice _ => []

/-- The bodies of the queued notices. -/
def told (s : State) : List NoticeBody := s.notices.queue.map (·.body)

/-! ## WellFormed: an ill-formed term for each check -/

theorem test_payload_too_long : (Instr.hello 0 (List.replicate 118 0)).wellFormed = false := by decide
theorem test_payload_longest : (Instr.hello 0 (List.replicate 117 0)).wellFormed = true := by decide
theorem test_unknown_request_names_a_known_code : (Instr.unknownRequest 0x01 0 []).wellFormed = false := by decide
theorem test_unknown_request_well_formed : (Instr.unknownRequest 0x77 0 []).wellFormed = true := by decide
theorem test_conversion_out_of_every_range : (Instr.conversionCompletion 6001).wellFormed = false := by decide
theorem test_conversion_below_every_range : (Instr.conversionCompletion (-881)).wellFormed = false := by decide
theorem test_table_words_spell_no_command : decodeTableWord 8 0 = none := by rfl

/-! ## Requests. The source of each expected value stands behind it. -/

-- R183
theorem test_identify_names_the_part :
    reply (after (.identify 1 []) ready) = [0, 5, 0x55, 0x48, 0x52, 0x49, 0x4E, 2, 0x42, 0x34, 3, 1, 4, 16, 16, 24, 16] := by decide
-- R181: 9 bytes after the status when the queue is empty
theorem test_hello_replies : reply (after (.hello 1 []) ready) = [0, 2, 0x42, 0x34, 17, 0, 0, 0, 0, 0] := by decide
theorem test_hello_opens_at_observe : (after (.hello 1 []) ready).link.level = .observe := by decide
-- R182
theorem test_bye_closes_the_edit : told (after (.bye 1 []) (editing profile)) = [.editClosed .bye] := by decide
-- section 11.5, at 15 and 16
theorem test_third_wrong_code_locks_out :
    (after (.setLevel 1 [2, 78, 0, 0, 0]) (atLevel .operate 2 .stopped)).link.lockout = .running 10000 := by decide
theorem test_lockout_refuses_the_right_code :
    reply (after (.setLevel 1 [2, 77, 0, 0, 0]) (atLevel .operate 3 (.running 9000))) = [12] := by decide
-- R158
theorem test_mask_keeps_start : reply (after (.setNoticeMask 1 [0]) ready) = [0, 1] := by decide
-- section 9.9, at 100 and 400
theorem test_ack_removes_through_the_notice :
    reply (after (.ackNotices 1 [41]) (withNotices
      [note 40 true, note 41 true, note 42 true, note 43 true, note 44 false, note 45 false] 46 (.running 154))) = [0, 2, 4] := by
  decide
theorem test_ack_of_a_removed_notice :
    reply (after (.ackNotices 1 [41]) (withNotices [note 42 true] 43 (.running 200))) = [4] := by decide
-- R191
theorem test_reset_part_waits_for_its_reply : (after (.resetPart 1 []) ready).link.resetPending = true := by decide
-- section 1.14, at 5000
theorem test_enable_starts_ramping : ((after (.enable 1 [1]) ready).channels.get 0).state = .ramping := by decide
theorem test_enable_tells_twice : told (after (.enable 1 [1]) ready)
    = [.channel 0 .disabled .qualifying .request (some noWait), .channel 0 .qualifying .ramping .ready none] := by decide
-- R15
theorem test_disable_winds_down : (after (.disable 1 [1]) active).drive.get 0 = ⟨1645, .wind, .running 1⟩ := by decide
-- section 1.14, at 13000
theorem test_clear_restores_the_budget : ((after (.clear 1 [1]) (locked 2)).channels.get 0).retryCount = 0 := by decide
theorem test_clear_of_active_is_not_applicable : reply (after (.clear 1 [1]) active) = [0, 1, 2] := by decide
-- R18, R4
theorem test_soft_hold_parks : (after (.softHold 1 [1, 1]) active).drive.get 0 = ⟨0, .parked, .stopped⟩ := by decide
-- R32 with the layout of section 10.11
theorem test_channel_status : reply (after (.channelStatus 1 [0]) active)
    = [0, 0, 4, 0, 0, 0, 0x6D, 0x06, 0x6D, 0x06, 0, 0, 0, 0, 0x10, 0x27, 0, 0, 0] := by decide
-- section 2.9: 696 in band 2, and 1501 in band 3
theorem test_eval_curve_on_the_segment : reply (after (.evalCurve 1 [0, 0, 0xB8, 0x02, 2]) ready)
    = [0, 0, 0, 0xB8, 0x02, 2, 0x95, 0x06, 0x6D, 0x06, 0] := by decide
theorem test_eval_curve_at_the_ceiling : (reply (after (.evalCurve 1 [0, 0, 0xDD, 0x05, 3]) ready)).drop 6
    = [0x02, 0x08, 0xD0, 0x07, 2] := by decide
-- R80: 1 + slot count + 16 bytes after the status
theorem test_read_scan_length : (reply (after (.readScan 1 []) ready)).length = 30 := by decide
-- R100
theorem test_read_points_of_temp : reply (after (.readPoints 1 [1, 0]) ready)
    = [0, 1, 0, 1, 2, 0, 1, 0, 1, 0, 0xB8, 0x02, 0xB8, 0x02, 5, 0, 0, 0] := by decide
-- section 6.11
theorem test_open_edit_answers_the_generation : reply (after (.openEdit 1 []) ready) = [0, 17, 0, 0, 0] := by decide
theorem test_put_trip_above_the_range : reply (after (.putTrip 1 [2, 1, 0x4C, 0x04, 3, 1]) (editing profile)) = [4] := by decide
theorem test_put_trip_restarts_the_idle_timer :
    (after (.putTrip 1 [2, 1, 0x8A, 0x02, 3, 1]) (editing profile)).store.idle = .running 120000 := by decide
theorem test_get_profile_keeps_the_idle_timer :
    (after (.getProfile 1 [2, 2, 1]) (editing profile)).store.idle = .running 5000 := by decide
-- R118, R109
theorem test_abandon_edit_posts_nothing : told (after (.abandonEdit 1 []) (editing profile)) = [] := by decide
theorem test_put_curve_that_falls : reply (after (.putCurve 1 [0, 2, 1, 0, 0, 0, 0, 0, 0, 0]) (editing profile)) = [4] := by decide
theorem test_put_label : ((after (.putLabel 1 [1, 2, 3, 4]) (editing profile)).store.staged.map (·.label))
    = some 0x04030201#32 := by decide
theorem test_put_access_code_acts_on_the_copy :
    (after (.putAccessCode 1 [1, 0, 0, 0]) (editing profile)).store.active.accessCode = 77 := by decide
theorem test_put_scan_list_of_no_slot : reply (after (.putScanList 1 [0]) (editing profile)) = [4] := by decide
theorem test_put_window_signed_for_temp :
    ((after (.putWindow 1 [0, 0x10, 0, 0xF0, 0xFF, 1, 0, 0]) (editing profile)).store.staged.map (·.windows.temp))
      = some ⟨16, -16, 1, 0⟩ := by decide
theorem test_put_supply_of_thermal_limit_151 :
    reply (after (.putSupply 1 [1, 0, 2, 0, 3, 0, 0, 0, 0, 9, 0, 151, 0, 1]) (editing profile)) = [4] := by decide
-- section 2.11
theorem test_put_channel_floor_above_ceiling : reply (after (.putChannel 1
    [0, 1, 0, 1, 1, 0x20, 0xFE, 0xC4, 0xFF, 0xD8, 0xFF, 0, 0, 0x98, 0x08, 0xD0, 0x07, 0, 0, 8, 20, 10, 2, 10, 0])
    (editing profile)) = [0] := by decide
theorem test_commit_refuses_floor_above_ceiling :
    reply (after (.commit 1 [0]) (editing { profile with channels := profile.channels.set 0 { chanProfile with floor := 2200 } }))
      = [10, 1, 0] := by decide
-- R121
theorem test_commit_raises_the_generation : reply (after (.commit 1 [0]) (editing profile)) = [0, 18, 0, 0, 0] := by decide
-- R130, with slot A valid
theorem test_persist_takes_slot_b : reply (after (.persist 1 []) slotAValid) = [1, 1, 17, 0, 0, 0] := by decide
-- R124, R125
theorem test_revert_of_the_newest_slot : reply (after (.revert 1 []) slotAValid) = [0, 0, 17, 0, 0, 0] := by decide
theorem test_revert_while_a_channel_runs : reply (after (.revert 1 []) active) = [11] := by decide
-- R139: 17 bytes after the status when IDLE, 21 when PERSISTING
theorem test_store_status_while_persisting : (reply (after (.storeStatus 1 []) (persisting 4))).length = 22 := by decide
-- R149
theorem test_read_log_of_an_empty_log : reply (after (.readLog 1 [0, 0, 1]) ready) = [0, 1, 0, 0, 0] := by decide
-- R150: the reply of four records stops after the third with a snapshot, at 96 bytes
set_option maxRecDepth 4000 in
theorem test_read_log_stops_at_the_frame : (reply (after (.readLog 1 [40, 0, 4])
    (logged [record 40 true, record 41 true, record 42 true, record 43 true] 44))).length = 96 := by decide
-- R151
theorem test_clear_log_counts : reply (after (.clearLog 1 []) (logged [record 40 false, record 41 false] 42)) = [0, 2] := by decide
-- R174
theorem test_unknown_code : reply (after (.unknownRequest 0x77 1 []) ready) = [2] := by decide
-- section 10.13, steps 3 and 5
theorem test_third_request_is_overrun :
    ((after (.overrun 0x1C 12 []) (sending [waiting 0x10 11 [1] .execute])).link.queue.map (·.mark))
      = [.execute, .execute, .overrun] := by decide

/-! ## Events of the line -/

-- section 10.13, steps 4 and 5
theorem test_reply_end_serves_the_next :
    reply (after .replyFrameEnd (sending [waiting 0x10 11 [1] .execute, waiting 0x1C 12 [] .overrun])) = [0, 1, 0] := by decide
theorem test_overrun_entry_is_not_examined : reply (after .replyFrameEnd (sending [waiting 0x1C 12 [] .overrun])) = [13] := by
  decide
-- section 10.14: a length byte of 9Ah ends the frame, D3h begins one
theorem test_length_out_of_range : (after (.byteReceived 0x9A) (collecting [])).link.phase = .hunt := by decide
theorem test_marker_starts_the_gap_timer : (after (.byteReceived 0xD3) ready).link.gap = .running 10 := by decide
-- section 10.14: a frame whose check differs
set_option maxRecDepth 4000 in
theorem test_bad_check_is_discarded :
    (after (.frameReceived 0) (collecting [4, 1, 0x14, 0x5A, 1, 0])).link = ready.link := by decide
theorem test_partial_frame_is_dropped_by_a_gap : (after .gapTimerExpiry (collecting [4, 1])).link.collected = [] := by decide
theorem test_framing_error_ends_the_frame : (after .framingError (collecting [4, 1])).link.phase = .hunt := by decide
-- section 11.5, at 18
theorem test_break_keeps_the_failure_count :
    (after .lineBreak (atLevel .operate 3 (.running 9000))).link.failures = 3 := by decide
theorem test_break_closes_the_session : (after .lineBreak ready).link.opened = false := by decide
theorem test_break_end_returns_to_hunt : (after .breakEnd (after .lineBreak ready)).link.phase = .hunt := by decide
-- section 9.9, at 4 and 353
theorem test_fourth_notice_end_starts_the_timer : (after .noticeFrameEnd
    { withNotices [note 40 true, note 41 true, note 42 true, note 43 true, note 44 false] 45 .stopped with
      link := { ready.link with tx := .notice (note 43 true) } }).notices.ack = .running 250 := by decide
theorem test_unacknowledged_notices_go_again :
    ((after .acknowledgementTimerExpiry (withNotices [note 42 true, note 43 true] 44 (.running 3))).notices.queue.map (·.sent))
      = [true, false] := by decide
-- section 11.5, at 25
theorem test_lockout_ends : (after .lockoutTimerExpiry (atLevel .observe 3 (.running 4000))).link.failures = 0 := by decide
-- section 6.11, at 260
theorem test_idle_edit_is_closed : told (after .editIdleTimerExpiry (editing profile)) = [.editClosed .timeout] := by decide

/-! ## Events of the channels -/

-- section 1.15
theorem test_hold_pin_takes_active_to_held : ((after (.holdPinChange 0 true) active).channels.get 0).state = .held := by decide
-- section 1.14, at 5020: the output stands at 160
theorem test_blanking_expiry_short_of_the_target :
    ((after (.blankingTimerExpiry 0) (ramping (.running 20) 160)).channels.get 0).state = .ramping := by decide
theorem test_blanking_expiry_at_the_target :
    ((after (.blankingTimerExpiry 0) (ramping (.running 20) 1645)).channels.get 0).state = .active := by decide
-- R12
theorem test_stable_expiry_clears_the_count :
    ((after (.stableTimerExpiry 0)
      (withChan .active 2 .stopped .stopped (.running 9) ⟨1645, .track, .running 1⟩)).channels.get 0).retryCount = 0 := by decide
-- section 1.14, at 9100
theorem test_retry_expiry_keeps_the_count : ((after (.retryTimerExpiry 0) (tripped 1)).channels.get 0).retryCount = 1 := by decide
theorem test_retry_expiry_starts_ramping : ((after (.retryTimerExpiry 0) (tripped 1)).channels.get 0).state = .ramping := by decide
-- section 1.14, at 5206: the 206th tick moves the last 5 codes
theorem test_last_tick_settles : ((after (.rampTick 0) (ramping .expired 1640)).channels.get 0).state = .active := by decide
-- section 3.10: arrival at park
theorem test_wind_arrives_at_park : ((after (.rampTick 0) (winding 5)).channels.get 0).state = .disabled := by decide
-- section 1.14, at 9000 and 12000
theorem test_trip_below_the_budget : ((after (.confirmedTrip 0 .oc)
    (active.setPendingTrip 0 .oc true)).channels.get 0).retry = .running 100 := by decide
theorem test_trip_at_the_budget_locks : ((after (.confirmedTrip 0 .oc)
    ((active.setRetryCount 0 2).setPendingTrip 0 .oc true)).channels.get 0).state = .locked := by decide

/-! ## Scanner, sequencer, store -/

-- section 4.10, at 4 us with confirm count 2 of this profile: the second sample beyond confirms and clears the tallies
theorem test_scan_step_confirms :
    ((after (.scanStep 900) (scanning [0, 1, 0, 2, 3, 4] 2 ⟨1, 2, 0, true⟩)).scanner.tallies.get 0) = ⟨0, 0, 0, true⟩ := by decide
-- section 4.11, sample 6
theorem test_lf_sample_above_arms_again :
    ((after (.scanStep 320) (scanning [0, 1, 2] 2 ⟨0, 0, 0, false⟩)).scanner.tallies.get 0).armed = true := by decide
-- section 5.9, at 0
theorem test_supply_sag_falls_to_band_1 :
    (after (.conversionCompletion 1200) { ready with seq := { ready.seq with point := .supply } }).seq.band = 1 := by decide
-- section 2.10, third TEMP conversion: 696 + (760 - 696) / 4
theorem test_temperature_is_smoothed : (after (.conversionCompletion 760) ready).seq.records.temp.smoothed = 712 := by decide
-- section 7.7, at 1054
theorem test_ninth_page_makes_the_slot_valid :
    (after (.pageWriteCompletion true) (persisting 9)).nv.statusB = ⟨true, 17⟩ := by decide
-- section 7.8: page 4 differs
theorem test_failed_page_keeps_pages_written : (after (.pageWriteCompletion false) (persisting 4)).nv.pagesWritten = 3 := by decide

/-! ## Power and start-up -/

-- R188
theorem test_power_resets : (after .power active).startup = ⟨.resetHeld, .power, 0⟩ := by decide
theorem test_pin_cause : (after .resetPinAsserted active).startup.cause = .pin := by decide
-- R188: the supply stands below the threshold still
theorem test_pin_before_the_supply_returns_reports_power :
    (after .resetPinAsserted (after .power active)).startup.cause = .power := by decide
theorem test_pin_after_reset_held_reports_pin :
    (after .resetPinAsserted (after .resetHeldEnd (after .power active))).startup.cause = .pin := by decide
theorem test_reset_held_ends : (after .resetHeldEnd State.reset).startup.phase = .recalling := by decide
-- section 12.4, at 1: START shows SLOT_A, generation 18
theorem test_recall_of_slot_a : told (after .endOfRecall recalling) = [.start .power .slotA 18] := by decide

-- section 10.11: kind, sequence number and body of a CHANNEL notice
theorem test_channel_notice_layout :
    (NoticeBody.channel 2 .disabled .qualifying .request (some ⟨true, false, false, false, true⟩)).layout
      = (2, [2, 0, 1, 0, 1, 17]) := by decide

-- the check value published for this polynomial and preset (PRESUMED: the spec gives no worked frame check)
set_option maxRecDepth 4000 in
theorem test_crc_of_check_string : crc [0x31, 0x32, 0x33, 0x34, 0x35, 0x36, 0x37, 0x38, 0x39] = 0x29B1#16 := by decide

/-! ## Witnesses: for each statement with hypotheses, a state and operands that meet them, for each of its clauses -/

/-- A request of the right length is executed in a state like `ready`. -/
theorem executes_of {s : State} (r : RequestName) (tag : Byte) (payload : List Byte) (h1 : s.takesBytes = true)
    (h2 : s.link.queue = []) (h3 : s.startup.phase = .running) (h4 : s.link.cache = none) (h5 : s.link.opened = true)
    (h6 : s.link.level = .calibrate) (h7 : r.lengthOk payload = true) : s.Executes r tag payload where
  atOnce := ⟨h1, h2⟩
  running := h3
  fresh := by simp [Link.replayFor, h4]
  session := .inl h5
  level := by rw [h6]; cases r <;> decide
  length := h7

theorem executes_ready (r : RequestName) (tag : Byte) (payload : List Byte) (h : r.lengthOk payload = true) :
    ready.Executes r tag payload := executes_of r tag payload rfl rfl rfl rfl rfl rfl h

theorem executes_editing (p : Profile) (r : RequestName) (tag : Byte) (payload : List Byte) (h : r.lengthOk payload = true) :
    (editing p).Executes r tag payload := executes_of r tag payload rfl rfl rfl rfl rfl rfl h

theorem witness_StepCarriesOutTheFrontCommand : ({ ready with pending := [.power] } : State).pending = .power :: [] := rfl

theorem witness_AnEmptyQueueLetsAMillisecondPass : ready.pending = [] := rfl

/-- A cache that answers a request of the index and another, recall in progress, a code outside the index, a closed session, a
level one below, a length of one too many. -/
theorem witness_RequestsAreJudgedInOrder :
    (∀ code ∈ ([0x10, 0x77] : List Byte), ∃ s : State, s.ServesAtOnce ∧ IsRequest (.overrun code 9 []) code 9 []
      ∧ s.link.replayFor code 9 = some ⟨code, 9, [0, 1, 0]⟩)
    ∧ (∀ code : Byte, recalling.ServesAtOnce ∧ recalling.link.replayFor code 9 = none ∧ recalling.startup.phase ≠ .running)
    ∧ (ready.ServesAtOnce ∧ IsRequest (.unknownRequest 0x77 9 []) 0x77 9 [] ∧ (∀ row ∈ requestIndex, row.code ≠ 0x77)
      ∧ ready.link.replayFor 0x77 9 = none ∧ ready.startup.phase = .running)
    ∧ (∃ (s : State) (row : IndexRow), row ∈ requestIndex ∧ row.code = 0x02 ∧ IsRequest (.bye 9 []) 0x02 9 [] ∧ s.ServesAtOnce
      ∧ s.link.replayFor 0x02 9 = none ∧ s.startup.phase = .running ∧ s.link.opened = false ∧ row.level ≠ none)
    ∧ (∃ (s : State) (row : IndexRow), row ∈ requestIndex ∧ row.code = 0x30 ∧ s.ServesAtOnce ∧ s.link.replayFor 0x30 9 = none
      ∧ s.startup.phase = .running ∧ s.link.opened = true ∧ ∃ level, row.level = some level ∧ s.link.level.code < level.code)
    ∧ (∃ row : IndexRow, row ∈ requestIndex ∧ row.code = 0x01 ∧ ready.ServesAtOnce ∧ ready.link.replayFor 0x01 9 = none
      ∧ ready.startup.phase = .running ∧ row.level = none ∧ [(0 : Byte)].length ≠ row.length [0]) := by
  refine ⟨fun code _ => ⟨{ ready with link := { ready.link with cache := some ⟨code, 9, [0, 1, 0]⟩ } }, ⟨rfl, rfl⟩,
      .inr (.inl rfl), by simp [Link.replayFor]⟩, fun _ => ⟨⟨rfl, rfl⟩, rfl, by decide⟩,
    ⟨⟨rfl, rfl⟩, .inl rfl, by decide, rfl, rfl⟩,
    ⟨{ ready with link := { ready.link with opened := false } }, requestIndex[1], List.getElem_mem _, rfl,
      .inr (.inr ⟨.bye, rfl, rfl⟩), ⟨rfl, rfl⟩, rfl, rfl, rfl, nofun⟩,
    ⟨atLevel .operate 0 .stopped, requestIndex[15], List.getElem_mem _, rfl, ⟨rfl, rfl⟩, rfl, rfl, rfl, .calibrate, rfl,
      by decide⟩,
    requestIndex[0], List.getElem_mem _, rfl, ⟨rfl, rfl⟩, rfl, rfl, rfl, by decide⟩

/-- One EXECUTE entry, two with three of OVERRUN, and a queue that is full. -/
theorem witness_RequestsBehindAnotherAreQueued :
    ∀ more ∈ [[], [waiting 1 1 [] .execute] ++ List.replicate 3 (waiting 1 1 [] .overrun),
        [waiting 1 1 [] .execute] ++ List.replicate 4 (waiting 1 1 [] .overrun)],
      (∃ r : RequestName, r.code = 0x10 ∧ Instr.enable 11 [1] = requestCommand r 11 [1]) ∧ (sending more).takesBytes = true
      ∧ (∃ e rest, (sending more).link.queue = e :: rest ∧ e.reply.isSome = true) ∧ (sending more).link.tx ≠ .idle :=
  fun _ _ => ⟨⟨.enable, rfl, rfl⟩, rfl, ⟨_, _, rfl, rfl⟩, by simp [sending]⟩

theorem witness_FrameEndsFreeTheTransmitter :
    ((answer 0x14 10).resets = false ∧ (sending []).link.tx = .reply (answer 0x14 10) true
      ∧ (sending []).link.queue = [served 0x14 10])
    ∧ ((sending [waiting 1 1 [] .overrun]).link.queue = served 0x14 10 :: waiting 1 1 [] .overrun :: []
      ∧ (waiting 1 1 [] .overrun).mark = .overrun ∧ (waiting 1 1 [] .overrun).reply = none)
    ∧ (∃ s : State, s.link.tx = .reply (answer 0x14 10) false) ∧ ∃ s : State, s.link.tx = .notice (note 40 true) :=
  ⟨⟨rfl, rfl, rfl⟩, ⟨rfl, rfl, rfl⟩, ⟨{ ready with link := { ready.link with tx := .reply (answer 0x14 10) false } }, rfl⟩,
    ⟨{ ready with link := { ready.link with tx := .notice (note 40 true) } }, rfl⟩⟩

/-- A reply on the line, one request behind it, a frame half received. -/
def midFrame : State :=
  { sending [waiting 0x10 11 [1] .execute] with
    link := { (sending [waiting 0x10 11 [1] .execute]).link with
      phase := .collect, collected := [120, 1], gap := .running 10 } }

/-- A request of the index behind a reply, with a frame half received, and one of a code outside the index. -/
theorem witness_AQueuedRequestIsServedAsOnArrival :
    (midFrame.startup.phase ≠ .resetHeld ∧ midFrame.link.tx = .reply (answer 0x14 10) true ∧ (answer 0x14 10).resets = false
      ∧ midFrame.link.queue = served 0x14 10 :: waiting 0x10 11 [1] .execute :: []
      ∧ (waiting 0x10 11 [1] .execute).mark = .execute ∧ (waiting 0x10 11 [1] .execute).reply = none
      ∧ IsRequest (.enable 11 [1]) 0x10 11 [1] ∧ midFrame.link.phase = .collect)
    ∧ ((sending [waiting 0x77 11 [1] .execute]).startup.phase ≠ .resetHeld
      ∧ (sending [waiting 0x77 11 [1] .execute]).link.tx = .reply (answer 0x14 10) true
      ∧ (sending [waiting 0x77 11 [1] .execute]).link.queue = served 0x14 10 :: waiting 0x77 11 [1] .execute :: []
      ∧ IsRequest (.unknownRequest 0x77 11 [1]) 0x77 11 [1]) :=
  ⟨⟨by decide, rfl, rfl, rfl, rfl, rfl, .inr (.inr ⟨.enable, rfl, rfl⟩), rfl⟩, by decide, rfl, rfl, .inl rfl⟩

/-- Three notices SENT leave room for a fourth; with four SENT, with none UNSENT and with no session there is none. -/
theorem witness_TransmitterChoosesAReplyThenANotice :
    (sending []).link.tx ≠ .idle
    ∧ (∃ s : State, s.link.tx = .idle ∧ s.link.queue = served 0x14 10 :: [] ∧ (served 0x14 10).reply = some (answer 0x14 10))
    ∧ (∃ s : State, s.link.queue = [] ∧ s.link.tx = .idle ∧ s.link.opened = true
      ∧ s.notices.queue = [note 1 true, note 2 true, note 3 true] ++ note 4 false :: [note 5 false]
      ∧ (∀ m ∈ [note 1 true, note 2 true, note 3 true], m.sent = true) ∧ (∀ m ∈ note 4 false :: [note 5 false], m.sent = false)
      ∧ [note 1 true, note 2 true, note 3 true].length < 4)
    ∧ (∃ s : State, s.link.queue = [] ∧ s.link.tx = .idle ∧ s.link.opened = false)
    ∧ (∃ s : State, s.link.queue = [] ∧ s.link.tx = .idle ∧ 4 ≤ (s.notices.queue.filter (·.sent)).length)
    ∧ (ready.link.queue = [] ∧ ready.link.tx = .idle ∧ ∀ m ∈ ready.notices.queue, m.sent = true) :=
  ⟨by decide, ⟨{ sending [] with link := { (sending []).link with tx := .idle } }, rfl, rfl, rfl⟩,
    ⟨withNotices [note 1 true, note 2 true, note 3 true, note 4 false, note 5 false] 6 .stopped, rfl, rfl, rfl, rfl, by decide,
      by decide, by decide⟩,
    ⟨State.reset, rfl, rfl, rfl⟩,
    ⟨withNotices [note 1 true, note 2 true, note 3 true, note 4 true, note 5 false] 6 .stopped, rfl, rfl, by decide⟩,
    rfl, rfl, by decide⟩

theorem witness_LinkAndEditTimersExpire :
    ((withNotices [note 1 true] 2 (.running 250)).notices.ack = .running 250)
    ∧ ((atLevel .operate 3 (.running 0)).link.lockout = .running 0)
    ∧ ((editing profile).store.idle = .running 5000 ∧ (editing profile).store.staged.isSome = true)
    ∧ ((collecting [4]).link.gap = .running 10)
    ∧ (ready.notices.ack = .stopped ∧ ready.link.lockout = .stopped ∧ ready.store.idle = .stopped ∧ ready.link.gap = .stopped) :=
  ⟨rfl, rfl, ⟨rfl, rfl⟩, rfl, rfl, rfl, rfl, rfl⟩

set_option maxRecDepth 4000 in
/-- A frame of no payload, a check that differs, a class that is not 1. -/
theorem witness_AWholeFrameIsHandedOnOrDiscarded :
    (∃ (s : State) (last : Byte), s.takesBytes = true ∧ s.link.phase = .collect ∧ ([] : List Byte).length ≤ 117
      ∧ 0xD3#8 :: (s.link.collected ++ [last]) = wireFrame 1 0x03 9 [])
    ∧ (∃ (s : State) (last len cls : Byte) (rest : List Byte), s.takesBytes = true ∧ s.link.phase = .collect
      ∧ s.link.collected = len :: cls :: rest ∧ s.link.collected.length + 1 = len.toNat + 3 ∧ 3 ≤ len.toNat ∧ cls = 1
      ∧ (len :: cls :: rest ++ [last]).drop (len.toNat + 1)
        ≠ littleEndian 2 (checkOf ((len :: cls :: rest).take (len.toNat + 1))).toNat)
    ∧ (∃ (s : State) (len cls : Byte) (rest : List Byte), s.takesBytes = true ∧ s.link.phase = .collect
      ∧ s.link.collected = len :: cls :: rest ∧ s.link.collected.length + 1 = len.toNat + 3 ∧ 3 ≤ len.toNat ∧ cls ≠ 1) :=
  ⟨⟨collecting ((wireFrame 1 0x03 9 []).tail.dropLast), (wireFrame 1 0x03 9 []).getLastD 0, by decide, rfl, by decide, by decide⟩,
    ⟨collecting [3, 1, 3, 9, 0], 0, 3, 1, [3, 9, 0], by decide, rfl, rfl, by decide, by decide, rfl, by decide⟩,
    ⟨collecting [3, 2, 3, 9, 0], 3, 2, [3, 9, 0], by decide, rfl, rfl, by decide, by decide, by decide⟩⟩

/-- The shortest and the longest frame. -/
theorem witness_FrameBytesCarryTheirRequest :
    ready.takesBytes = true ∧ ready.link.phase = .hunt ∧ ([] : List Byte).length ≤ 117
    ∧ (List.replicate 117 (0 : Byte)).length ≤ 117 := ⟨rfl, rfl, by decide, by decide⟩

/-- RESET_HELD and BREAK; in HUNT a byte beside the marker and the marker; as a length byte 3, 120, the marker, 2 and 121; a byte within a frame. -/
theorem witness_TheReceiverHuntsAndCollects :
    State.reset.startup.phase = .resetHeld
    ∧ ((after .lineBreak ready).startup.phase ≠ .resetHeld ∧ (after .lineBreak ready).link.phase = .inBreak
      ∧ IsRequest (.hello 9 []) 0x01 9 [])
    ∧ (ready.startup.phase ≠ .resetHeld ∧ ready.link.phase = .hunt ∧ (0xD2#8 ≠ 0xD3#8) ∧ (0xD3#8 = 0xD3#8))
    ∧ ((collecting []).startup.phase ≠ .resetHeld ∧ (collecting []).link.phase = .collect ∧ (collecting []).link.collected = []
      ∧ (3 ≤ (3#8).toNat ∧ (3#8).toNat ≤ 120) ∧ (3 ≤ (120#8).toNat ∧ (120#8).toNat ≤ 120)
      ∧ ((2#8).toNat < 3 ∧ 2#8 ≠ 0xD3#8) ∧ (120 < (121#8).toNat ∧ 121#8 ≠ 0xD3#8))
    ∧ ((collecting [3, 1, 3, 9]).link.collected = 3 :: [1, 3, 9]
      ∧ (collecting [3, 1, 3, 9]).link.collected.length + 1 < (3 : Byte).toNat + 3) := by
  refine ⟨rfl, ⟨?_, ?_, .inr (.inr ⟨.hello, rfl, rfl⟩)⟩, ⟨?_, rfl, ?_⟩, ⟨?_, rfl, rfl, ?_⟩, rfl, ?_⟩ <;> decide

/-- An executed RESET_PART, waiting for a notice frame to end. -/
def resetWaits : State :=
  { ready with link := { ready.link with
    queue := [⟨0x07, 9, [], .execute, some ⟨0x07, 9, [0], true, true⟩⟩], tx := .notice (note 1 true), resetPending := true } }

theorem witness_ABreakIsALinkReset :
    State.reset.startup.phase = .resetHeld
    ∧ (ready.startup.phase ≠ .resetHeld ∧ ready.link.phase ≠ .inBreak
      ∧ ∀ e rest r, ready.link.queue = e :: rest → e.reply = some r → r.resets = false)
    ∧ ((sending []).link.phase ≠ .inBreak ∧ ∃ r, (sending []).link.tx = .reply r true)
    ∧ (resetWaits.startup.phase ≠ .resetHeld ∧ resetWaits.link.phase ≠ .inBreak
      ∧ (∃ e rest r, resetWaits.link.queue = e :: rest ∧ e.reply = some r ∧ r.resets = true)
      ∧ ∀ r, resetWaits.link.tx ≠ .reply r true)
    ∧ (after .lineBreak ready).link.phase = .inBreak :=
  ⟨rfl, ⟨by decide, by decide, fun _ _ _ h => nomatch h⟩, ⟨by decide, _, rfl⟩,
    ⟨by decide, by decide, ⟨_, _, _, rfl, rfl, rfl⟩, by simp [resetWaits]⟩, by decide⟩

theorem witness_HelloAndByeSetTheSession :
    (editing profile).Executes .hello 1 [] ∧ State.Executes { ready with link := { ready.link with opened := false } } .hello 1 []
    ∧ (editing profile).Executes .bye 1 [] :=
  ⟨executes_editing _ _ _ _ rfl, ⟨⟨rfl, rfl⟩, rfl, rfl, .inr rfl, by decide, rfl⟩, executes_editing _ _ _ _ rfl⟩

/-- Levels 0, 1, 2 and 3; a lockout that runs; a right and a wrong code. -/
theorem witness_SetLevelGrantsOrJudges :
    (ready.Executes .setLevel 1 [3, 0, 0, 0, 0] ∧ 2 < (3 : Byte).toNat)
    ∧ (ready.Executes .setLevel 1 [0, 0, 0, 0, 0] ∧ Level.observe.code = (0 : Byte).toNat ∧ (0 : Byte).toNat ≤ ready.link.level.code)
    ∧ ((atLevel .observe 0 .stopped).Executes .setLevel 1 [1, 0, 0, 0, 0] ∧ Level.operate.code = (1 : Byte).toNat)
    ∧ (ready.Executes .setLevel 1 [2, 0, 0, 0, 0] ∧ Level.calibrate.code = (2 : Byte).toNat
      ∧ (2 : Byte).toNat ≤ ready.link.level.code)
    ∧ ((atLevel .operate 3 (.running 0)).Executes .setLevel 1 [2, 77, 0, 0, 0] ∧ (atLevel .operate 3 (.running 0)).link.level.code < 2
      ∧ (atLevel .operate 3 (.running 0)).link.lockout = .running 0)
    ∧ ((atLevel .operate 2 .stopped).Executes .setLevel 1 [2, 77, 0, 0, 0] ∧ (atLevel .operate 2 .stopped).link.lockout = .stopped
      ∧ u32 77 0 0 0 = (atLevel .operate 2 .stopped).store.active.accessCode)
    ∧ ((atLevel .operate 2 .stopped).Executes .setLevel 1 [2, 78, 0, 0, 0]
      ∧ u32 78 0 0 0 ≠ (atLevel .operate 2 .stopped).store.active.accessCode) :=
  ⟨⟨executes_ready _ _ _ rfl, by decide⟩, ⟨executes_ready _ _ _ rfl, rfl, by decide⟩,
    ⟨⟨⟨rfl, rfl⟩, rfl, rfl, .inl rfl, by decide, rfl⟩, rfl⟩, ⟨executes_ready _ _ _ rfl, rfl, by decide⟩,
    ⟨⟨⟨rfl, rfl⟩, rfl, rfl, .inl rfl, by decide, rfl⟩, by decide, rfl⟩,
    ⟨⟨⟨rfl, rfl⟩, rfl, rfl, .inl rfl, by decide, rfl⟩, rfl, rfl⟩, ⟨⟨⟨rfl, rfl⟩, rfl, rfl, .inl rfl, by decide, rfl⟩, by decide⟩⟩

theorem witness_SetNoticeMaskKeepsStart :
    (ready.Executes .setNoticeMask 1 [128] ∧ 127 < (128 : Byte).toNat)
    ∧ (ready.Executes .setNoticeMask 1 [127] ∧ (127 : Byte).toNat ≤ 127) :=
  ⟨⟨executes_ready _ _ _ rfl, by decide⟩, executes_ready _ _ _ rfl, by decide⟩

theorem witness_AckNoticesRemovesThroughASentNotice :
    ((withNotices [note 255 true, note 0 true, note 1 false] 2 (.running 9)).Executes .ackNotices 1 [0]
      ∧ (withNotices [note 255 true, note 0 true, note 1 false] 2 (.running 9)).notices.queue
        = [note 255 true] ++ note 0 true :: [note 1 false]
      ∧ (note 0 true).sent = true ∧ (note 0 true).seq = 0 ∧ ∀ m ∈ [note 255 true], m.seq ≠ 0)
    ∧ ((withNotices [note 1 false] 2 .stopped).Executes .ackNotices 1 [1]
      ∧ ∀ m ∈ (withNotices [note 1 false] 2 .stopped).notices.queue, m.sent = true → m.seq ≠ 1) :=
  ⟨⟨executes_of _ _ _ rfl rfl rfl rfl rfl rfl rfl, rfl, rfl, rfl, by decide⟩,
    executes_of _ _ _ rfl rfl rfl rfl rfl rfl rfl, by decide⟩

/-- A masked kind; queues of 15 and of 16 notices. -/
theorem witness_PostedNoticesAreQueuedOrCounted :
    (({ ready with notices := { ready.notices with mask := 1 } } : State).notices.mask.getLsbD
      ((NoticeBody.editClosed .bye).kind.code - 1) = false)
    ∧ ((withNotices (List.replicate 15 (note 0 false)) 15 .stopped).notices.mask.getLsbD
        ((NoticeBody.editClosed .bye).kind.code - 1) = true
      ∧ (withNotices (List.replicate 15 (note 0 false)) 15 .stopped).notices.queue.length < 16)
    ∧ (∃ older newest, (withNotices (List.replicate 16 (note 0 false)) 16 .stopped).notices.queue = older ++ [newest]
      ∧ 15 ≤ older.length) :=
  ⟨by decide, ⟨by decide, by decide⟩, List.replicate 15 (note 0 false), note 0 false, rfl, by decide⟩

theorem witness_ResetPartResetsAtItsReplysEnd :
    ((persisting 1).Executes .resetPart 1 [] ∧ (persisting 1).nv.op.isSome = true)
    ∧ (ready.Executes .resetPart 1 [] ∧ ready.nv.op = none)
    ∧ (∃ (s : State) (r : Reply), s.link.tx = .reply r true ∧ r.resets = true) :=
  ⟨⟨executes_of _ _ _ rfl rfl rfl rfl rfl rfl rfl, rfl⟩, ⟨executes_ready _ _ _ rfl, rfl⟩,
    { ready with link := { ready.link with tx := .reply ⟨0x07, 9, [0], true, true⟩ true } }, _, rfl, rfl⟩

theorem witness_FullResetsBeginAndEnd : State.reset.startup.phase = .resetHeld ∧ ready.startup.phase ≠ .resetHeld
    ∧ State.reset.pins.supplyGood = false ∧ ready.pins.supplyGood = true := ⟨rfl, by decide, rfl, rfl⟩

theorem recalling_held : recalling.HeldUntilRecall where
  channels := fun _ => rfl
  targets := fun _ => rfl
  drive := fun _ => rfl
  scanner := fun _ => rfl
  seq := fun _ => rfl
  store := fun _ => rfl
  nv := fun _ => rfl
  log := fun _ => rfl
  notices := fun _ => rfl
  session := fun _ => ⟨rfl, rfl⟩
  still := nofun
  powered := fun _ => rfl

theorem chanProfile_inRange : chanProfile.FieldsInRange where
  points := by decide
  breakpoints := by decide
  rising := by decide
  trims := by decide
  codes := by decide
  slew := by decide
  blanking := by decide
  retries := by decide
  stable := by decide
  trips := fun k => by cases k <;> decide
  heat := by decide

theorem profile_inRange : profile.FieldsInRange where
  channels := fun n => by
    have h : profile.channels.get n = chanProfile := by revert n; decide
    rw [h]
    exact chanProfile_inRange
  scanList := by decide
  edges := by decide
  drive := by decide
  thermal := by decide
  windows := fun q => by rcases q with _ | _ | ⟨n, k⟩ <;> (try cases k) <;> (try revert n) <;> decide

/-- Slot A of `recalling` is sound, slot B, never written, is not. -/
theorem witness_EndOfRecallBringsThePartUp : recalling.HeldUntilRecall ∧ recalling.startup.phase = .recalling
    ∧ (recalling.nv.pages .a).Sound ∧ ¬(recalling.nv.pages .b).Sound :=
  ⟨recalling_held, rfl,
    { mark := rfl, format := rfl, check := rfl, ranges := profile_inRange, floorCeiling := by decide, bandEdges := by decide
      driveWindow := by decide
      warningWindow := fun q => by rcases q with _ | _ | ⟨n, k⟩ <;> (try cases k) <;> (try revert n) <;> decide },
    fun h => absurd h.mark (by decide)⟩

/-- Masks 0, 1, 15 and 16 for each of the three requests. -/
theorem witness_ChannelRequestsMoveTheNamedChannels :
    (∀ m ∈ ([0, 1, 15, 16] : List Byte), ready.Executes .enable 1 [m] ∧ ready.Executes .disable 1 [m] ∧ ready.Executes .clear 1 [m])
    ∧ ¬(1 ≤ (0 : Byte).toNat ∧ (0 : Byte).toNat ≤ 15) ∧ ¬(1 ≤ (16 : Byte).toNat ∧ (16 : Byte).toNat ≤ 15)
    ∧ (1 ≤ (1 : Byte).toNat ∧ (1 : Byte).toNat ≤ 15) ∧ (1 ≤ (15 : Byte).toNat ∧ (15 : Byte).toNat ≤ 15) :=
  ⟨fun _ _ => ⟨executes_ready _ _ _ rfl, executes_ready _ _ _ rfl, executes_ready _ _ _ rfl⟩, by decide, by decide, by decide,
    by decide⟩

theorem witness_SoftHoldSetsAndActs :
    (ready.Executes .softHold 1 [15, 2] ∧ ¬(1 ≤ (15 : Byte).toNat ∧ (15 : Byte).toNat ≤ 15 ∧ (2 : Byte).toNat ≤ 1))
    ∧ (ready.Executes .softHold 1 [15, 1] ∧ (1 : Byte) = (if true then 1 else 0) ∧ 1 ≤ (15 : Byte).toNat ∧ (15 : Byte).toNat ≤ 15)
    ∧ (ready.Executes .softHold 1 [1, 0] ∧ (0 : Byte) = (if false then 1 else 0) ∧ 1 ≤ (1 : Byte).toNat) :=
  ⟨⟨executes_ready _ _ _ rfl, by decide⟩, ⟨executes_ready _ _ _ rfl, rfl, by decide, by decide⟩, executes_ready _ _ _ rfl, rfl,
    by decide⟩

theorem witness_HoldPinsActOnEffectiveness :
    ready.pins.hold.get 0 = false ∧ (ready.pins.hold.get 3 ≠ true ∧ ready.startup.phase = .running)
    ∧ (recalling.pins.hold.get 3 ≠ true ∧ recalling.startup.phase ≠ .running) := ⟨rfl, ⟨by decide, rfl⟩, by decide, by decide⟩

theorem witness_BlankingExpiryMarksOrSettles :
    ((ramping (.running 0) 160).channels.get 0).state = .ramping ∧ ((ramping (.running 0) 160).channels.get 0).blanking = .running 0 :=
  ⟨rfl, rfl⟩

theorem witness_StableAndRetryTimersExpire :
    ((active.channels.get 0).state = .active ∧ (active.channels.get 0).stable = .running 10000)
    ∧ (((tripped 1).channels.get 0).state = .tripped ∧ ((tripped 1).channels.get 0).retry = .running 100) :=
  ⟨⟨rfl, rfl⟩, rfl, rfl⟩

theorem witness_TrackTicksStepTowardTheTarget :
    (active.drive.get 0).mode = .track ∧ (active.drive.get 0).tick = .running 1 := ⟨rfl, rfl⟩

theorem witness_WindTicksStepTowardPark :
    (((winding 5).drive.get 0).mode = .wind ∧ ((winding 5).drive.get 0).tick = .running 1) ∧ (ready.drive.get 0).tick = .stopped :=
  ⟨⟨rfl, rfl⟩, rfl⟩

/-- A PARKED, a TRACK and a WIND stage of channels in such states, for entries into RAMPING, WINDING_DOWN and the rest. -/
theorem witness_EnteringAStateStartsItsTimersAndDrive :
    ((ready.view 0).drive.Ok (ready.view 0).chan.state (ready.prof 0).park ∧ (ready.view 0).drive.mode = .parked)
    ∧ ((active.view 0).drive.Ok (active.view 0).chan.state (active.prof 0).park ∧ (active.view 0).drive.mode = .track
      ∧ (active.view 0).chan.state = .active)
    ∧ (((winding 5).view 0).drive.Ok ((winding 5).view 0).chan.state ((winding 5).prof 0).park
      ∧ ((winding 5).view 0).drive.mode = .wind) := by
  refine ⟨⟨⟨rfl, ?_, ?_⟩, rfl⟩, ⟨⟨rfl, ?_, ?_⟩, rfl, rfl⟩, ⟨rfl, ?_, ?_⟩, rfl⟩ <;> decide

theorem witness_AConfirmedTripIsRecordedAndActedOn :
    ((ready.channels.get 0).confirmations.has .oc = false)
    ∧ (((ready.setPendingTrip 0 .oc true).channels.get 0).confirmations.has .oc = true
      ∧ ((ready.setPendingTrip 0 .oc true).channels.get 0).state.takesTrips = false)
    ∧ ((active.setPendingTrip 0 .ot true).startup.phase = .running
      ∧ ((active.setPendingTrip 0 .ot true).channels.get 0).confirmations.has .ot = true
      ∧ ((active.setPendingTrip 0 .ot true).channels.get 0).state.takesTrips = true) :=
  ⟨rfl, ⟨rfl, rfl⟩, rfl, rfl, rfl⟩

theorem witness_AScanStepCountsOneSample :
    State.reset.scanner.scanning = false
    ∧ ((scanning [0, 1, 2] 2 ⟨0, 0, 0, false⟩).scanner.scanning = true
      ∧ (scanning [0, 1, 2] 2 ⟨0, 0, 0, false⟩).store.active.scanList[(scanning [0, 1, 2] 2 ⟨0, 0, 0, false⟩).scanner.position]?
        = some 2) := ⟨rfl, rfl, rfl⟩

theorem witness_ATempCompletionFeedsTargetsAndCondition :
    ready.seq.running = true ∧ ready.seq.timer = .running 4 ∧ ready.seq.point = .temp := ⟨rfl, rfl, rfl⟩

/-- A temperature of 110 degrees sets the condition over an ACTIVE channel. -/
theorem witness_OverTemperatureTripsTheDrivenChannels :
    active.seq.running = true ∧ active.seq.timer = .running 4 ∧ active.seq.point = .temp
    ∧ (active.channels.get 0).state.takesTrips = true := ⟨rfl, rfl, rfl, rfl⟩

theorem witness_ASupplyCompletionSetsBandAndStatus :
    ∃ s : State, s.seq.running = true ∧ s.seq.timer = .running 4 ∧ s.seq.point = .supply :=
  ⟨{ ready with seq := { ready.seq with point := .supply } }, rfl, rfl, rfl⟩

theorem witness_AChannelPointCompletionUpdatesItsRecord :
    ∃ s : State, s.seq.running = true ∧ s.seq.timer = .running 4 ∧ s.seq.point = .chan 3 .ref :=
  ⟨{ ready with seq := { ready.seq with point := .chan 3 .ref } }, rfl, rfl, rfl⟩

/-- The factory edges rise, and 3200 is at the third of them, 2399 below the first. -/
theorem witness_HysteresisFollowsTheTables :
    profile.supply.e1 < profile.supply.e2 ∧ profile.supply.e2 < profile.supply.e3
    ∧ (∃ k, (2 : Fin 4).val < k ∧ k ≤ 3 ∧ (profile.supply.e3 : Int) ≤ 3200)
    ∧ (∀ k : Nat, (3 : Fin 4).val < k → k ≤ 3 → (2399 : Int) < profile.supply.e3) :=
  ⟨by decide, by decide, ⟨3, by decide, by decide, by decide⟩, fun k h1 h2 => by have : (3 : Fin 4).val = 3 := rfl; omega⟩

/-- On the first and the last breakpoint, and on an interior one. -/
theorem witness_TheBaseFollowsTheCurve :
    curveOk chanProfile.curve = true
    ∧ (chanProfile.curve.head? = some ⟨-20, 1200⟩ ∧ (-320 : Int) ≤ 16 * (-20))
    ∧ (chanProfile.curve.getLast? = some ⟨120, 1900⟩ ∧ 16 * 120 ≤ (1920 : Int))
    ∧ (chanProfile.curve[1]? = some ⟨25, 1500⟩ ∧ chanProfile.curve[1 + 1]? = some ⟨85, 2100⟩ ∧ 16 * 25 ≤ (400 : Int)
      ∧ (400 : Int) < 16 * 85) := by decide

/-- The ends of each field's range and the values beside them; a STAGED copy below CALIBRATE, without and with an edit. -/
theorem witness_EvalCurveReportsBaseTargetAndLimit :
    (∀ l : List Byte, l.length = 5 → ready.Executes .evalCurve 1 l ∧ (editing profile).Executes .evalCurve 1 l)
    ∧ (3 < (4 : Byte).toNat ∧ 1 < (2 : Byte).toNat ∧ (-881 : Int) < -880 ∧ (2400 : Int) < 2401)
    ∧ ((3 : Byte).toNat = (3 : Fin 4).val ∧ -880 ≤ (2400 : Int) ∧ (2400 : Int) ≤ 2400)
    ∧ ((atLevel .operate 0 .stopped).Executes .evalCurve 1 [3, 1, 0, 0, 3] ∧ (atLevel .operate 0 .stopped).link.level ≠ .calibrate)
    ∧ (ready.link.level = .calibrate ∧ ready.store.staged = none) ∧ (editing profile).store.staged = some profile :=
  ⟨fun l h => ⟨executes_ready _ _ _ (by simp [RequestName.lengthOk, h]), executes_editing _ _ _ _ (by simp [RequestName.lengthOk, h])⟩,
    by decide, by decide, ⟨⟨⟨rfl, rfl⟩, rfl, rfl, .inl rfl, by decide, rfl⟩, by decide⟩, ⟨rfl, rfl⟩, rfl⟩

theorem witness_EditsOpenAndAreAbandoned :
    (ready.Executes .openEdit 1 [] ∧ ready.Executes .abandonEdit 1 [] ∧ ready.store.staged = none)
    ∧ ((editing profile).Executes .openEdit 1 [] ∧ (editing profile).Executes .abandonEdit 1 []
      ∧ (editing profile).store.staged ≠ none) :=
  ⟨⟨executes_ready _ _ _ rfl, executes_ready _ _ _ rfl, rfl⟩, executes_editing _ _ _ _ rfl, executes_editing _ _ _ _ rfl,
    by simp [editing]⟩

theorem witness_PutRequestsChangeOnlyTheStagedCopy :
    (RequestName.putScanList ∈ putRequests ∧ ready.Executes .putScanList 1 [0] ∧ ready.store.staged = none)
    ∧ ((editing profile).Executes .putScanList 1 [0] ∧ (editing profile).store.staged = some profile
      ∧ stagedAfter .putScanList [0] profile = none)
    ∧ ((editing profile).Executes .putScanList 1 [1, 11]
      ∧ stagedAfter .putScanList [1, 11] profile = some { profile with scanList := [11] }) :=
  ⟨⟨by decide, executes_ready _ _ _ rfl, rfl⟩, ⟨executes_editing _ _ _ _ rfl, rfl, by decide⟩, executes_editing _ _ _ _ rfl,
    by decide⟩

theorem witness_PutTakesBackWhatGetProfileReturns : profile.inRange = true := by decide

/-- The last code, index and copy of each range and the first beyond it. -/
theorem witness_GetProfileReturnsASection :
    (∀ l : List Byte, l.length = 3 → ready.Executes .getProfile 1 l ∧ (editing profile).Executes .getProfile 1 l)
    ∧ (6 < (7 : Byte).toNat ∧ 1 < (2 : Byte).toNat ∧ ((2 : Byte).toNat ≤ 2 ∧ 3 < (4 : Byte).toNat)
      ∧ ((4 : Byte).toNat = 4 ∧ 13 < (14 : Byte).toNat) ∧ ((6 : Byte).toNat ∈ [3, 5, 6] ∧ (1 : Byte).toNat ≠ 0))
    ∧ ((3 : Chan).val = (3 : Byte).toNat ∧ Point.index (.chan 3 .ref) = (13 : Byte).toNat)
    ∧ ((atLevel .operate 0 .stopped).Executes .getProfile 1 [6, 0, 1] ∧ (atLevel .operate 0 .stopped).link.level ≠ .calibrate)
    ∧ (ready.link.level = .calibrate ∧ ready.store.staged = none) ∧ (editing profile).store.staged = some profile :=
  ⟨fun l h => ⟨executes_ready _ _ _ (by simp [RequestName.lengthOk, h]), executes_editing _ _ _ _ (by simp [RequestName.lengthOk, h])⟩,
    by decide, by decide, ⟨⟨⟨rfl, rfl⟩, rfl, rfl, .inl rfl, by decide, rfl⟩, by decide⟩, ⟨rfl, rfl⟩, rfl⟩

/-- The first four checks fail on these copies; the last two on them under a channel that runs. -/
theorem witness_ARefusedCommitChangesNothing :
    (ready.Executes .commit 1 [2] ∧ 1 < (2 : Byte).toNat) ∧ (ready.Executes .commit 1 [1] ∧ ready.store.staged = none)
    ∧ (∃ s : State, s.Executes .commit 1 [1] ∧ s.store.staged ≠ none ∧ s.nv.op ≠ none)
    ∧ (∃ s : State, s.Executes .commit 1 [1] ∧ s.store.staged ≠ none ∧ s.nv.op = none ∧ s.store.active.generation = 4294967295)
    ∧ ((editing profile).Executes .commit 1 [1] ∧ (editing profile).nv.op = none
      ∧ (editing profile).store.active.generation ≠ 4294967295 ∧ (editing profile).store.staged = some profile
      ∧ (∀ n, (profile.channels.get n).floor ≤ (profile.channels.get n).ceiling)
      ∧ profile.supply.e1 < profile.supply.e2 ∧ profile.supply.e2 < profile.supply.e3
      ∧ profile.supply.driveMin + 2 * profile.supply.hyst < profile.supply.driveMax)
    ∧ ((800 : Nat) < 801 ∧ (2400 : Nat) ≤ 2400 ∧ (2040 : Nat) ≤ 2000 + 2 * 20 ∧ (32 : Int) - 0 ≤ 32)
    ∧ (active.channels.get 0).state.isRunning = true ∧ factoryChannel.usable = false ∧ covered [0, 2] 0 = false :=
  ⟨⟨executes_ready _ _ _ rfl, by decide⟩, ⟨executes_ready _ _ _ rfl, rfl⟩,
    ⟨{ persisting 1 with store := ⟨profile, some profile, .running 9⟩ }, executes_of _ _ _ rfl rfl rfl rfl rfl rfl rfl,
      by simp, by simp [persisting]⟩,
    ⟨{ ready with store := ⟨{ profile with generation := 4294967295 }, some profile, .running 9⟩ },
      executes_of _ _ _ rfl rfl rfl rfl rfl rfl rfl, by simp, rfl, rfl⟩,
    ⟨executes_editing _ _ _ _ rfl, rfl, by decide, rfl, by decide, by decide, by decide, by decide⟩, by decide, rfl, rfl, by decide⟩

theorem witness_ACommitCarriesItsEffectsToEveryBlock :
    (editing profile).Executes .commit 1 [1] ∧ (1 : Byte).toNat ≤ 1 ∧ (editing profile).store.staged = some profile
    ∧ (editing profile).nv.op = none ∧ (editing profile).store.active.generation ≠ 4294967295
    ∧ firstFailure profile (editing profile).isRunning = none :=
  ⟨executes_editing _ _ _ _ rfl, by decide, rfl, rfl, by decide, by decide⟩

theorem witness_PersistStartsAnOperation :
    ((persisting 1).Executes .persist 1 [] ∧ (persisting 1).nv.op ≠ none)
    ∧ (slotAValid.Executes .persist 1 [] ∧ slotAValid.nv.op = none ∧ slotAValid.nv.statusA.valid = true
      ∧ slotAValid.nv.statusB.valid = false)
    ∧ (ready.Executes .persist 1 [] ∧ ready.nv.op = none ∧ ready.nv.statusA.valid = false) :=
  ⟨⟨executes_of _ _ _ rfl rfl rfl rfl rfl rfl rfl, by simp [persisting]⟩,
    ⟨executes_of _ _ _ rfl rfl rfl rfl rfl rfl rfl, rfl, rfl, rfl⟩, executes_ready _ _ _ rfl, rfl, rfl⟩

/-- Pages 1, 8 and 9, the last but one and the last. -/
theorem witness_PageCompletionsWriteOrEnd :
    ready.nv.op = none
    ∧ ∀ page ∈ [1, 8, 9], ∃ o, (persisting page).nv.op = some o ∧ SlotName.a ≠ o.target ∧ o.page = page ∧ o.page ≤ 9 := by
  refine ⟨rfl, fun page h => ⟨_, rfl, by simp, rfl, ?_⟩⟩
  simp at h
  show page ≤ 9
  omega

theorem witness_RevertInstallsTheNewestSlot :
    ((editing profile).Executes .revert 1 [] ∧ (editing profile).store.staged ≠ none)
    ∧ (active.Executes .revert 1 [] ∧ active.store.staged = none ∧ ∃ n, (active.channels.get n).state.isRunning = true)
    ∧ ((persisting 1).Executes .revert 1 [] ∧ (persisting 1).store.staged = none
      ∧ (¬∃ n, ((persisting 1).channels.get n).state.isRunning = true) ∧ (persisting 1).nv.op ≠ none)
    ∧ (ready.Executes .revert 1 [] ∧ ready.nv.op = none ∧ ready.nv.statusA.valid = false ∧ ready.nv.statusB.valid = false)
    ∧ (slotAValid.Executes .revert 1 [] ∧ slotAValid.store.staged = none
      ∧ (¬∃ n, (slotAValid.channels.get n).state.isRunning = true) ∧ slotAValid.nv.op = none
      ∧ (slotAValid.nv.status .a).valid = true ∧ ∀ other, other ≠ SlotName.a → (slotAValid.nv.status other).valid = false) :=
  ⟨⟨executes_editing _ _ _ _ rfl, by simp [editing]⟩,
    ⟨executes_of _ _ _ rfl rfl rfl rfl rfl rfl rfl, rfl, 0, rfl⟩,
    ⟨executes_of _ _ _ rfl rfl rfl rfl rfl rfl rfl, rfl, by decide, by simp [persisting]⟩,
    ⟨executes_ready _ _ _ rfl, rfl, rfl, rfl⟩,
    executes_of _ _ _ rfl rfl rfl rfl rfl rfl rfl, rfl, by decide, rfl, rfl,
    fun other h => by cases other <;> first | rfl | exact absurd rfl h⟩

/-- Channels 3 and 4 beside the two other requests. -/
theorem witness_StatusRequestsOnlyReport :
    ready.Executes .identify 1 [] ∧ ready.Executes .storeStatus 1 [] ∧ ready.Executes .readScan 1 []
    ∧ (ready.Executes .channelStatus 1 [4] ∧ 3 < (4 : Byte).toNat)
    ∧ (ready.Executes .channelStatus 1 [3] ∧ (3 : Chan).val = (3 : Byte).toNat) :=
  ⟨executes_ready _ _ _ rfl, executes_ready _ _ _ rfl, executes_ready _ _ _ rfl, ⟨executes_ready _ _ _ rfl, by decide⟩,
    executes_ready _ _ _ rfl, rfl⟩

/-- Masks of none, of nine points, of eight points, and above 16383. -/
theorem witness_ReadPointsReportsTheNamedRecords :
    (∀ m0 m1 : Byte, ready.Executes .readPoints 1 [m0, m1])
    ∧ ((0 : Byte) ++ (0 : Byte) = (0 : BitVec 16)) ∧ 16383 < ((0x40 : Byte) ++ (0 : Byte)).toNat
    ∧ 8 < (allPoints.filter fun p => ((0x01 : Byte) ++ (0xFF : Byte)).getLsbD p.index).length
    ∧ (allPoints.filter fun p => ((0x00 : Byte) ++ (0xFF : Byte)).getLsbD p.index).length ≤ 8 :=
  ⟨fun _ _ => executes_ready _ _ _ rfl, by decide, by decide, by decide, by decide⟩

set_option maxRecDepth 4000 in
/-- Counts 0, 5, 1 and 4; a start that is found and one that is not; a reply that the frame ends. -/
theorem witness_TheLogIsReadAndCleared :
    ((∀ n0 n1 c : Byte, ready.Executes .readLog 1 [n0, n1, c]) ∧ 4 < (5 : Byte).toNat)
    ∧ ((logged [record 7 false, record 8 false] 9).Executes .readLog 1 [8, 0, 1] ∧ 1 ≤ (1 : Byte).toNat ∧ (1 : Byte).toNat ≤ 4
      ∧ (logged [record 7 false, record 8 false] 9).log.records = [record 7 false] ++ [record 8 false]
      ∧ ([record 8 false].head?.map (·.number)) = some ((0 : Byte) ++ (8 : Byte) : BitVec 16)
      ∧ (∀ r ∈ [record 7 false], r.number ≠ ((0 : Byte) ++ (8 : Byte) : BitVec 16)))
    ∧ ((∀ r ∈ (logged [record 7 false] 8).log.records, r.number ≠ ((0 : Byte) ++ (9 : Byte) : BitVec 16)))
    ∧ (9 + ([record 1 true, record 2 true, record 3 true].map fun r => r.bytes.length).sum ≤ 117
      ∧ 117 < 9 + ([record 1 true, record 2 true, record 3 true, record 4 true].map fun r => r.bytes.length).sum)
    ∧ ready.Executes .clearLog 1 [] :=
  ⟨⟨fun _ _ _ => executes_ready _ _ _ rfl, by decide⟩,
    ⟨executes_of _ _ _ rfl rfl rfl rfl rfl rfl rfl, by decide, by decide, rfl, by decide, by decide⟩, by decide, by decide,
    executes_ready _ _ _ rfl⟩

/-! The invariants: a state that meets each, and that has a next state. -/

/-- Notices 255 and 0, the first SENT. -/
def twoNotices : State := withNotices [note 255 true, note 0 false] 1 (.running 9)

theorem witness_NoticesStayConsecutive : twoNotices.notices.Ok ∧ ∃ t, step twoNotices = .next t where
  left := by constructor <;> decide
  right := ⟨_, rfl⟩

/-- Records 65535 and 0. -/
def twoRecords : State := logged [record 65535 true, record 0 false] 1

theorem witness_FaultLogStaysConsecutive : twoRecords.log.Ok ∧ ∃ t, step twoRecords = .next t where
  left := {
    bounded := by decide
    consecutive := by decide
    newest := fun r h => by
      cases h
      rfl
    carriedOut := by decide }
  right := ⟨_, rfl⟩

theorem witness_TheLinkStaysBounded : midFrame.link.QueueOk ∧ midFrame.link.ReceiverOk ∧ ∃ t, step midFrame = .next t := by
  refine ⟨⟨by decide, by decide, ?_, by decide, ?_⟩, ⟨by decide, by decide, ?_⟩, _, rfl⟩
  · intro e h
    cases h
    rfl
  · intro r h
    cases h
    rfl
  · intro len rest h
    cases h
    decide

theorem witness_EditsNeedCalibrateAndASession : (editing profile).SessionOk ∧ ∃ t, step (editing profile) = .next t where
  left := by constructor <;> simp [editing, ready, State.reset, linkAtReset]
  right := ⟨_, rfl⟩

theorem witness_BlocksAreHeldUntilRecallEnds : recalling.HeldUntilRecall ∧ recalling.startup.phase ≠ .running
    ∧ ∃ t, step recalling = .next t := ⟨recalling_held, by decide, _, rfl⟩

theorem running_held {s : State} (h : s.startup.phase = .running) (hp : s.pins.supplyGood = true) : s.HeldUntilRecall where
  channels := fun k => absurd h k
  targets := fun k => absurd h k
  drive := fun k => absurd h k
  scanner := fun k => absurd h k
  seq := fun k => absurd h k
  store := fun k => absurd h k
  nv := fun k => absurd h k
  log := fun k => absurd h k
  notices := fun k => absurd h k
  session := fun k => absurd h k
  still := fun k => by simp [h] at k
  powered := fun _ => hp

theorem witness_DriveStagesMatchTheirChannels :
    active.HeldUntilRecall ∧ active.ChannelsOk ∧ ∃ t, step active = .next t := by
  refine ⟨running_held rfl rfl, ⟨fun n => ?_, fun _ n => ?_⟩, _, rfl⟩
  · revert n
    have h : ∀ n, ((active.channels.get n).state ≠ .qualifying → (active.channels.get n).wait = noWait)
        ∧ ((active.channels.get n).blanking ≠ .stopped ↔ (active.channels.get n).state = .ramping)
        ∧ ((active.channels.get n).retry ≠ .stopped ↔ (active.channels.get n).state = .tripped)
        ∧ ((active.channels.get n).stable ≠ .stopped → (active.channels.get n).state = .active) := by decide
    exact fun n => ⟨(h n).1, (h n).2.1, (h n).2.2.1, (h n).2.2.2⟩
  · revert n
    have h : ∀ n, (active.drive.get n).mode = (active.channels.get n).state.driveMode
        ∧ ((active.drive.get n).tick ≠ .stopped ↔ (active.drive.get n).mode = .track ∨ (active.drive.get n).mode = .wind)
        ∧ ((active.drive.get n).mode = .parked → (active.drive.get n).output = (active.prof n).park) := by decide
    exact fun n => ⟨(h n).1, (h n).2.1, (h n).2.2⟩

theorem profile_good : profile.Good := by constructor <;> decide

theorem slotAValid_profiles : slotAValid.ProfilesOk where
  active := profile_good
  staged := fun p h => nomatch h
  nv := {
    valid := fun n h => by cases n <;> revert h <;> decide
    invalid := fun n h => by cases n <;> revert h <;> decide
    target := fun o h => nomatch h
    page := fun o h => nomatch h
    header := fun o h => nomatch h
    snapshot := fun o h => nomatch h
    pagesWritten := by decide }
  slots := fun n => by cases n <;> decide
  flight := fun o h => nomatch h

theorem witness_TheActiveProfileStaysGood :
    slotAValid.HeldUntilRecall ∧ slotAValid.ProfilesOk ∧ ∃ t, step slotAValid = .next t :=
  ⟨running_held rfl rfl, slotAValid_profiles, _, rfl⟩

theorem active_profiles : active.ProfilesOk where
  active := profile_good
  staged := fun p h => nomatch h
  nv := {
    valid := fun n h => by cases n <;> revert h <;> decide
    invalid := fun n _ => by cases n <;> rfl
    target := fun o h => nomatch h
    page := fun o h => nomatch h
    header := fun o h => nomatch h
    snapshot := fun o h => nomatch h
    pagesWritten := by decide }
  slots := fun n => by cases n <;> decide
  flight := fun o h => nomatch h

theorem witness_ChannelsRunOnlyInSafeConditions :
    active.HeldUntilRecall ∧ active.ProfilesOk ∧ active.RunsSafely ∧ ∃ t, step active = .next t :=
  ⟨running_held rfl rfl, active_profiles, ⟨by decide, by decide⟩, _, rfl⟩

theorem witness_CountsAndTargetsStayInBounds :
    active.HeldUntilRecall ∧ active.ProfilesOk ∧ active.BoundsOk ∧ active.ScanOk ∧ ∃ t, step active = .next t := by
  refine ⟨running_held rfl rfl, active_profiles, ⟨by decide, fun _ => by decide⟩, ⟨by decide, ?_, ?_, ?_, by decide⟩, _, rfl⟩ <;>
    intro n k <;> revert n <;> cases k <;> decide

end Sys2Proof.Tests
end

/-! The channel requests ENABLE, DISABLE, CLEAR and SOFT_HOLD (R13 to R18). Each is work on one channel, whose whole effect is a
`ChanEffect` that depends on nothing the other channels' work touches; `exec_overMask` carries that effect over the mask, once for
all four requests. -/

namespace Sys2Proof.Machine

/-! ## What a channel's path depends on -/

theorem State.chan_eq_of_view {s t : State} {n : Chan} (hv : t.view n = s.view n) : t.channels.get n = s.channels.get n :=
  congrArg ChanView.chan hv

theorem State.SameElsewhere.holdEffective {s t : State} (h : s.SameElsewhere t) {n : Chan} (hv : t.view n = s.view n) :
    t.holdEffective n = s.holdEffective n := by
  simp [State.holdEffective, h.lines.2, State.chan_eq_of_view hv]

theorem State.SameElsewhere.qualifyPath {s t : State} (h : s.SameElsewhere t) (n : Chan) (cause : Cause) :
    t.qualifyPath n cause = s.qualifyPath n cause := by
  simp [State.qualifyPath, h.waitReasons n]

theorem State.SameElsewhere.wantedPath {s t : State} (h : s.SameElsewhere t) {n : Chan} (hv : t.view n = s.view n)
    (cause : Cause) : t.wantedPath n cause = s.wantedPath n cause := by
  simp [State.wantedPath, h.holdEffective hv, h.qualifyPath n]

theorem State.SameElsewhere.holdChangePath {s t : State} (h : s.SameElsewhere t) {n : Chan} (hv : t.view n = s.view n)
    (before after : Bool) : t.holdChangePath n before after = s.holdChangePath n before after := by
  simp only [State.holdChangePath, State.holdPath, State.releasePath, State.chan_eq_of_view hv, h.prof n, h.qualifyPath n]

theorem enablePath_dependsOnView : DependsOnView State.enablePath := fun s t n h hv => by
  simp [State.enablePath, State.chan_eq_of_view hv, h.wantedPath hv]

theorem disablePath_dependsOnView : DependsOnView State.disablePath := fun s t n _ hv => by
  simp [State.disablePath, State.chan_eq_of_view hv]

theorem clearPath_dependsOnView : DependsOnView State.clearPath := fun s t n h hv => by
  simp [State.clearPath, State.chan_eq_of_view hv, h.wantedPath hv, h.qualifyPath n]

@[simp] theorem State.setChan_prof (s : State) (n m : Chan) (c : Channel) : (s.setChan n c).prof m = s.prof m := rfl
@[simp] theorem State.setChan_waitReasons (s : State) (n m : Chan) (c : Channel) :
    (s.setChan n c).waitReasons m = s.waitReasons m := rfl
@[simp] theorem State.setChan_qualifyPath (s : State) (n m : Chan) (c : Channel) (cause : Cause) :
    (s.setChan n c).qualifyPath m cause = s.qualifyPath m cause := rfl

theorem State.qualifyPath_ne_nil (s : State) (n : Chan) (cause : Cause) : s.qualifyPath n cause ≠ [] := by
  unfold State.qualifyPath
  split <;> simp

theorem State.wantedPath_ne_nil (s : State) (n : Chan) (cause : Cause) : s.wantedPath n cause ≠ [] := by
  unfold State.wantedPath
  split
  · simp
  · exact s.qualifyPath_ne_nil n cause

/-! ## Work on one channel -/

/-- The whole effect of a request on one channel: the view it starts from (the channel's own values as the request sets them),
the path it takes from there, and the result R13 reports. -/
structure ChanEffect where
  start : ChanView
  path : Path
  result : ChanResult

/-- The work on one channel has this effect, and the effect is the channel's own: other channels' moves and the receipt of the
request's frame do not alter it. -/
structure HasEffect (work : State → Chan → State × ChanResult) (effect : State → Chan → ChanEffect) : Prop where
  moves : ∀ (s : State) (n : Chan), s.MovesOnly (work s n).1 n (effect s n).start (effect s n).path
  result : ∀ s n, (work s n).2 = (effect s n).result
  depends : DependsOnView effect
  asked : ∀ (s : State) r tag payload n, effect (s.asked r tag payload) n = effect s n

theorem mem_allChans (n : Chan) : n ∈ allChans := by
  revert n
  decide

/-! The receipt of a request's frame changes the link and the pins alone, and no channel reads either but for its HOLD pin. -/

@[simp] theorem State.asked_view (s : State) (r : RequestName) (tag : Byte) (payload : List Byte) (n : Chan) :
    (s.asked r tag payload).view n = s.view n := rfl
@[simp] theorem State.asked_follow (s : State) (r : RequestName) (tag : Byte) (payload : List Byte) (n : Chan) (v : ChanView)
    (path : Path) : (s.asked r tag payload).follow n v path = s.follow n v path := rfl

/-- The state with the link and the pins of another. -/
def State.withLines (t s : State) : State := { t with link := s.link, pins := s.pins }

@[simp] theorem State.view_withLines (t s : State) (n : Chan) : (t.withLines s).view n = t.view n := rfl

/-- What keeps the link and the pins of a state that was asked is itself a state that was asked. -/
theorem State.asked_withLines {s t : State} {r : RequestName} {tag : Byte} {payload : List Byte}
    (h : (s.asked r tag payload).SameElsewhere t) : (t.withLines s).asked r tag payload = t := by
  obtain ⟨hlink, hpins⟩ := h.lines
  calc (t.withLines s).asked r tag payload
      = { t with link := (s.asked r tag payload).link, pins := (s.asked r tag payload).pins } := rfl
    _ = t := by rw [← hlink, ← hpins]

/-- A state that differs from an asked one in the channels alone differs so from the one that was asked, under its lines. -/
theorem State.SameElsewhere.withLines {s t : State} {r : RequestName} {tag : Byte} {payload : List Byte}
    (h : (s.asked r tag payload).SameElsewhere t) : s.SameElsewhere (t.withLines s) :=
  { h with lines := ⟨rfl, rfl⟩ }

/-- R13: a request that its owner serves by work on each named channel: every named channel has its effect as if it were alone,
the notices are posted in ascending order, and the reply gives the results. -/
theorem exec_overMask {s : State} {r : RequestName} {tag mask : Byte} {payload : List Byte}
    {work : State → Chan → State × ChanResult} {effect : State → Chan → ChanEffect} (w : HasEffect work effect)
    (h : s.Executes r tag payload) (notReset : r ≠ .resetPart)
    (owner : ∀ u, ownerServes r payload u = ((overMask mask work u).1, maskAnswer mask (overMask mask work u).2)) :
    ∃ t : State, exec (requestCommand r tag payload) s = .next (t.answered r tag payload
        (0 :: mask :: (allChans.filter fun n => mask.getLsbD n.val).map fun n => byteOf (effect s n).result.code))
      ∧ (∀ n, t.view n =
        if mask.getLsbD n.val then s.follow n (effect s n).start (effect s n).path else s.view n)
      ∧ t.notices = s.notices.postAll
        (allChans.flatMap fun n => if mask.getLsbD n.val then s.noticesOf n (effect s n).path else [])
      ∧ s.SameElsewhere t ∧ s.SameLog t := by
  have atAsked := w.asked s r tag payload
  obtain ⟨views, notices, elsewhere, log, results⟩ := nameChan_foldl mask work (fun s n => (effect s n).start)
    (fun s n => (effect s n).path) w.moves (fun s t n he hv => congrArg ChanEffect.start (w.depends s t n he hv))
    (fun s t n he hv => congrArg ChanEffect.path (w.depends s t n he hv))
    (fun s t n he hv => by simp only [w.result, w.depends s t n he hv])
    allChans (s.asked r tag payload) [] (by decide)
  simp only [w.result, atAsked] at views notices results
  refine ⟨(overMask mask work (s.asked r tag payload)).1.withLines s, ?_, fun n => ?_, notices, elsewhere.withLines, log⟩
  · have served := exec_executes h _ _ ((owner _).trans (Prod.ext (State.asked_withLines elsewhere).symm rfl))
      (by simp [answerResets, requestOfCode_code, notReset])
    rw [served, overMask, results]
    simp [maskAnswer, Answer.bytes, Answer.okWith, resultBytes, Function.comp_def, Status.code, byteOf]
  · simpa [mem_allChans, overMask] using views n

/-- R13: a request whose fields its owner finds out of range is answered RANGE, and changes nothing. -/
theorem exec_outOfRange {s : State} {r : RequestName} {tag : Byte} {payload : List Byte} (h : s.Executes r tag payload)
    (owner : ∀ u, ownerServes r payload u = (u, .only .range)) :
    exec (requestCommand r tag payload) s = .next (s.answered r tag payload [4]) :=
  exec_executes h s (.only .range) (owner _) (by simp [answerResets, Answer.only])

theorem chanMaskIn_eq_some {m : Byte} (lo : 1 ≤ m.toNat) (hi : m.toNat ≤ 15) : chanMaskIn m = some m := by
  simp [chanMaskIn, lo, hi]

theorem chanMaskIn_eq_none {m : Byte} (h : ¬(1 ≤ m.toNat ∧ m.toNat ≤ 15)) : chanMaskIn m = none := if_neg h

/-! ## ENABLE, DISABLE and CLEAR (R14, R15, R17) -/

/-- R17: the view a request's path starts from: CLEAR sets the retry count of a LOCKED channel to 0. -/
def requestStart (r : RequestName) (s : State) (n : Chan) : ChanView :=
  { s.view n with chan := { s.channels.get n with
    retryCount := if r = .clear ∧ (s.channels.get n).state = .locked then 0 else (s.channels.get n).retryCount } }

theorem requestStart_of_not_clear {r : RequestName} (h : r ≠ .clear) (s : State) (n : Chan) :
    requestStart r s n = s.view n := by
  simp [requestStart, h, State.view]

theorem requestStart_of_not_locked (r : RequestName) {s : State} {n : Chan} (h : (s.channels.get n).state ≠ .locked) :
    requestStart r s n = s.view n := by
  simp [requestStart, h, State.view]

/-- R14, R15, R17: the effect of a request that takes a channel along a path, with its result for a channel that stays. -/
def requestEffect (r : RequestName) (path : State → Chan → Path) (idle : ChanResult) (s : State) (n : Chan) : ChanEffect where
  start := requestStart r s n
  path := path s n
  result := if path s n = [] then idle else .done

theorem requestEffect_dependsOnView (r : RequestName) {path : State → Chan → Path} (idle : ChanResult)
    (hp : DependsOnView path) : DependsOnView (requestEffect r path idle) := fun s t n h hv => by
  simp [requestEffect, requestStart, hv, State.chan_eq_of_view hv, hp s t n h hv]

theorem enableChan_hasEffect : HasEffect enableChan (requestEffect .enable State.enablePath .noChange) where
  moves := fun s n => by
    simp only [requestEffect, requestStart_of_not_clear (r := .enable) (by decide), enableChan, State.enablePath]
    cases (s.channels.get n).state
    case disabled => exact s.startWanted_movesOnly n .request
    case windingDown => exact s.transition_movesOnly n .ramping .request (by decide)
    all_goals exact State.MovesOnly.refl s n
  result := fun s n => by
    cases hs : (s.channels.get n).state <;> simp [requestEffect, enableChan, State.enablePath, hs, State.wantedPath_ne_nil]
  depends := requestEffect_dependsOnView _ _ enablePath_dependsOnView
  asked := fun _ _ _ _ _ => rfl

theorem disableChan_hasEffect : HasEffect disableChan (requestEffect .disable State.disablePath .noChange) where
  moves := fun s n => by
    simp only [requestEffect, requestStart_of_not_clear (r := .disable) (by decide), disableChan, State.disablePath]
    cases (s.channels.get n).state
    case ramping | active => exact s.transition_movesOnly n .windingDown .request (by decide)
    case windingDown | disabled => exact State.MovesOnly.refl s n
    all_goals exact s.transition_movesOnly n .disabled .request (by decide)
  result := fun s n => by
    cases hs : (s.channels.get n).state <;> simp [requestEffect, disableChan, State.disablePath, hs]
  depends := requestEffect_dependsOnView _ _ disablePath_dependsOnView
  asked := fun _ _ _ _ _ => rfl

/-- `State.MovesOnly.afterSetChan` from any view: a channel's own values change, and then it moves by values that may change
again. -/
theorem State.MovesOnly.of_setChan {s t : State} {n : Chan} {c : Channel} {v : ChanView} {p : Path}
    (h : (s.setChan n c).MovesOnly t n v p) (hc : c.state = (s.channels.get n).state) : s.MovesOnly t n v p where
  moved := h.moved
  others := fun m hm => (h.others m hm).trans (s.view_setChan_of_ne n m c hm)
  told := by
    simp only [h.told, State.noticesOf, State.setChan_notices, State.setChan_waitReasons, State.setChan_channels,
      Quad.get_set_self, hc]
  elsewhere := State.SameElsewhere.trans (by constructor <;> simp) h.elsewhere
  log := h.log

theorem State.clearLocked_movesOnly {s : State} {n : Chan} (hs : (s.channels.get n).state = .locked) :
    s.MovesOnly ((s.setRetryCount n 0).startWanted n .request) n (requestStart .clear s n) (s.wantedPath n .request) := by
  have moved := (s.setRetryCount n 0).startWanted_movesOnly n .request
  have start : (s.setRetryCount n 0).view n = requestStart .clear s n := by simp [State.setRetryCount, requestStart, hs]
  have path : (s.setRetryCount n 0).wantedPath n .request = s.wantedPath n .request := by
    simp [State.wantedPath, State.holdEffective, State.setRetryCount]
  rw [start, path] at moved
  exact moved.of_setChan rfl

theorem clearChan_hasEffect : HasEffect clearChan (requestEffect .clear State.clearPath .notApplicable) where
  moves := fun s n => by
    simp only [requestEffect, clearChan, State.clearPath]
    cases hs : (s.channels.get n).state
    case locked => exact State.clearLocked_movesOnly hs
    all_goals rw [requestStart_of_not_locked _ (by simp [hs])]
    case tripped => exact s.enterQualifying_movesOnly n .request
    all_goals exact State.MovesOnly.refl s n
  result := fun s n => by
    cases hs : (s.channels.get n).state <;>
      simp [requestEffect, clearChan, State.clearPath, hs, State.wantedPath_ne_nil, State.qualifyPath_ne_nil]
  depends := requestEffect_dependsOnView _ _ clearPath_dependsOnView
  asked := fun _ _ _ _ _ => rfl

theorem requestEffect_result_byte (r : RequestName) (path : State → Chan → Path) (idle : ChanResult) (s : State) (n : Chan) :
    byteOf (requestEffect r path idle s n).result.code = if path s n = [] then byteOf idle.code else 0 := by
  unfold requestEffect
  split <;> rfl

/-- ENABLE, DISABLE and CLEAR are served alike, each with its work, its path and its result for a channel that stays. -/
theorem channelRequest_cases {r : RequestName} {path : State → Chan → Path} {idle : Byte}
    (h : (r = .enable ∧ path = State.enablePath ∧ idle = 1) ∨ (r = .disable ∧ path = State.disablePath ∧ idle = 1)
      ∨ (r = .clear ∧ path = State.clearPath ∧ idle = 2)) :
    ∃ (work : State → Chan → State × ChanResult) (stays : ChanResult), byteOf stays.code = idle
      ∧ HasEffect work (requestEffect r path stays) ∧ r ≠ .resetPart
      ∧ ∀ payload u, ownerServes r payload u = serveMask payload work u := by
  obtain ⟨rfl, rfl, rfl⟩ | ⟨rfl, rfl, rfl⟩ | ⟨rfl, rfl, rfl⟩ := h
  · exact ⟨enableChan, .noChange, rfl, enableChan_hasEffect, by decide, fun _ _ => rfl⟩
  · exact ⟨disableChan, .noChange, rfl, disableChan_hasEffect, by decide, fun _ _ => rfl⟩
  · exact ⟨clearChan, .notApplicable, rfl, clearChan_hasEffect, by decide, fun _ _ => rfl⟩

/-- Settles O22: each named channel has the effect of its request as if it were alone. -/
theorem channelRequestsMoveTheNamedChannels : Obligations.ChannelRequestsMoveTheNamedChannels := by
  intro s r path idle tag m hreq hexec
  obtain ⟨work, stays, rfl, effect, notReset, owner⟩ := channelRequest_cases hreq
  constructor
  · intro outside
    exact exec_outOfRange hexec fun u => by simp [owner, serveMask, chanMaskIn_eq_none outside]
  · intro lo hi
    have named := exec_overMask (mask := m) effect hexec notReset fun u => by simp [owner, serveMask, chanMaskIn_eq_some lo hi]
    simp only [requestEffect_result_byte] at named
    exact named

/-! ## SOFT_HOLD (R18) -/

/-- R3 to R5: a channel acts on a change of effectiveness; a lock that hold clears has its retry count set to 0. -/
theorem State.holdChanged_movesOnly (s : State) (n : Chan) (before : Bool) :
    s.MovesOnly (s.holdChanged n before) n
      { s.view n with chan := { s.channels.get n with
        retryCount := if (s.holdChangePath n before (s.holdEffective n)).2 then 0 else (s.channels.get n).retryCount } }
      (s.holdChangePath n before (s.holdEffective n)).1 := by
  have same : ({ s.view n with chan := { s.channels.get n with retryCount := (s.channels.get n).retryCount } } : ChanView)
      = s.view n := rfl
  unfold State.holdChanged State.holdChangePath
  by_cases rises : (!before && s.holdEffective n) = true
  · simpa [rises] using s.holdBecomesEffective_movesOnly n
  · by_cases falls : (before && !s.holdEffective n) = true
    · simpa [rises, falls, same] using s.holdCeases_movesOnly n
    · simpa [rises, falls, same] using State.MovesOnly.refl s n

/-- R18: what setting the soft hold does to channel `n` through hold: its path, and whether its retry count is set to 0. -/
def softHoldPath (on : Bool) (s : State) (n : Chan) : Path × Bool :=
  s.holdChangePath n (s.holdEffective n) (s.pins.hold.get n || on)

/-- R18: the effect of SOFT_HOLD on one channel. -/
def softHoldEffect (on : Bool) (s : State) (n : Chan) : ChanEffect where
  start := { s.view n with chan := { s.channels.get n with
    softHold := on
    retryCount := if (softHoldPath on s n).2 then 0 else (s.channels.get n).retryCount } }
  path := (softHoldPath on s n).1
  result := if (s.channels.get n).softHold = on then .noChange else .done

theorem State.holdChangePath_same (s : State) (n : Chan) (b : Bool) : s.holdChangePath n b b = ([], false) := by
  cases b <;> rfl

theorem softHoldPath_of_set {on : Bool} {s : State} {n : Chan} (h : (s.channels.get n).softHold = on) :
    softHoldPath on s n = ([], false) := by
  subst h
  exact s.holdChangePath_same n _

theorem softHoldPath_dependsOnView (on : Bool) : DependsOnView (softHoldPath on) := fun s t n h hv => by
  simp [softHoldPath, h.holdChangePath hv, h.holdEffective hv, h.lines.2]

@[simp] theorem State.setSoftHold_state (s : State) (n : Chan) (on : Bool) :
    ((s.setSoftHold n on).channels.get n).state = (s.channels.get n).state := by simp [State.setSoftHold]

@[simp] theorem State.setSoftHold_prof (s : State) (n m : Chan) (on : Bool) : (s.setSoftHold n on).prof m = s.prof m := rfl

theorem State.setSoftHold_holdEffective (s : State) (n : Chan) (on : Bool) :
    (s.setSoftHold n on).holdEffective n = (s.pins.hold.get n || on) := by simp [State.holdEffective, State.setSoftHold]

theorem State.setSoftHold_holdPath (s : State) (n : Chan) (on : Bool) : (s.setSoftHold n on).holdPath n = s.holdPath n := by
  cases hs : (s.channels.get n).state <;> simp [State.holdPath, hs, State.setSoftHold]

theorem State.setSoftHold_releasePath (s : State) (n : Chan) (on : Bool) :
    (s.setSoftHold n on).releasePath n = s.releasePath n := by
  by_cases hs : (s.channels.get n).state = .held <;> simp [State.releasePath, hs, State.setSoftHold]

/-- The path that hold takes a channel does not depend on the soft hold that has been set. -/
theorem State.setSoftHold_holdChangePath (s : State) (n : Chan) (on : Bool) :
    (s.setSoftHold n on).holdChangePath n (s.holdEffective n) ((s.setSoftHold n on).holdEffective n) = softHoldPath on s n := by
  simp only [softHoldPath, State.holdChangePath, State.setSoftHold_holdEffective, State.setSoftHold_holdPath,
    State.setSoftHold_releasePath, State.setSoftHold_state, State.setSoftHold_prof]

theorem softHoldChan_hasEffect (on : Bool) : HasEffect (softHoldChan on) (softHoldEffect on) where
  moves := fun s n => by
    unfold softHoldChan softHoldEffect
    by_cases hset : (s.channels.get n).softHold = on
    · have start : ({ s.view n with chan := { s.channels.get n with softHold := on } } : ChanView) = s.view n := by
        simp [← hset, State.view]
      simpa [hset, softHoldPath_of_set hset, start] using State.MovesOnly.refl s n
    · have moved := (s.setSoftHold n on).holdChanged_movesOnly n (s.holdEffective n)
      rw [State.setSoftHold_holdChangePath] at moved
      simpa [hset, State.setSoftHold] using moved.of_setChan rfl
  result := fun s n => by
    unfold softHoldChan softHoldEffect
    split <;> rfl
  depends := fun s t n h hv => by
    simp [softHoldEffect, hv, State.chan_eq_of_view hv, softHoldPath_dependsOnView on s t n h hv]
  asked := fun _ _ _ _ _ => rfl

theorem softHoldEffect_result_byte (on : Bool) (s : State) (n : Chan) :
    byteOf (softHoldEffect on s n).result.code = if (s.channels.get n).softHold = on then 1 else 0 := by
  simp only [softHoldEffect]
  split <;> rfl

theorem flagIn_flag (on : Bool) : flagIn (if on then 1 else 0) = some on := by cases on <;> rfl

theorem flagIn_eq_none {b : Byte} (h : ¬b.toNat ≤ 1) : flagIn b = none := by
  have h0 : b ≠ 0 := by rintro rfl; exact h (by decide)
  have h1 : b ≠ 1 := by rintro rfl; exact h (by decide)
  rw [flagIn, if_neg h0, if_neg h1]

/-- R18: SOFT_HOLD with a mask or a setting out of range. -/
theorem serveSoftHold_outOfRange {m setting : Byte} (h : ¬(1 ≤ m.toNat ∧ m.toNat ≤ 15 ∧ setting.toNat ≤ 1)) (u : State) :
    serveSoftHold [m, setting] u = (u, .only .range) := by
  by_cases hm : 1 ≤ m.toNat ∧ m.toNat ≤ 15
  · have hset : ¬setting.toNat ≤ 1 := fun hs => h ⟨hm.1, hm.2, hs⟩
    simp [serveSoftHold, flagIn_eq_none hset]
  · simp [serveSoftHold, chanMaskIn_eq_none hm]

/-- Settles O23: each named channel takes the setting and acts on hold as if it were alone. -/
theorem softHoldSetsAndActs : Obligations.SoftHoldSetsAndActs := by
  intro s tag m setting hexec
  constructor
  · exact fun outside => exec_outOfRange hexec (serveSoftHold_outOfRange outside)
  · rintro on rfl lo hi
    have named := exec_overMask (mask := m) (softHoldChan_hasEffect on) hexec (by decide) fun u => by
      simp only [ownerServes, serveSoftHold, chanMaskIn_eq_some lo hi, flagIn_flag]
    simp only [softHoldEffect_result_byte] at named
    exact named

end Sys2Proof.Machine

/-! The set points of chapter 2: the base of a curve (R34 to R37), and what EVAL_CURVE answers of it (R48 to R50). -/

namespace Sys2Proof.Machine

/-! ## The segment between two breakpoints (R36, R37) -/

/-- R37: an offset within the span keeps the truncated quotient of `rise * offset` between 0 and the rise, for a rise upward. -/
theorem tdiv_mul_le_rise {rise offset span : Int} (up : 0 ≤ rise) (lo : 0 ≤ offset) (hi : offset < span) :
    0 ≤ (rise * offset).tdiv span ∧ (rise * offset).tdiv span ≤ rise := by
  have within : rise * offset ≤ rise * span := Int.mul_le_mul_of_nonneg_left hi.le up
  rw [Int.tdiv_eq_ediv_of_nonneg (Int.mul_nonneg up lo)]
  exact ⟨Int.ediv_nonneg (Int.mul_nonneg up lo) (lo.trans hi.le), Int.ediv_le_of_le_mul (lo.trans_lt hi) within⟩

/-- R37: the base on a segment lies between the codes of its two breakpoints. -/
theorem interpolate_between {a b : Breakpoint} {t16 : Int} (lo : 16 * a.temp ≤ t16) (hi : t16 < 16 * b.temp) :
    min (a.code : Int) b.code ≤ interpolate a b t16 ∧ interpolate a b t16 ≤ max (a.code : Int) b.code := by
  have offset : 0 ≤ t16 - 16 * a.temp := by omega
  have inSpan : t16 - 16 * a.temp < 16 * (b.temp - a.temp) := by omega
  unfold interpolate
  rcases le_total (a.code : Int) b.code with up | down
  · have := tdiv_mul_le_rise (rise := (b.code : Int) - a.code) (by omega) offset inSpan
    omega
  · have := tdiv_mul_le_rise (rise := -((b.code : Int) - a.code)) (by omega) offset inSpan
    rw [Int.neg_mul, Int.neg_tdiv] at this
    omega

theorem interpolate_at_first (a b : Breakpoint) : interpolate a b (16 * a.temp) = a.code := by simp [interpolate]

/-! ## A curve in order (R34) -/

/-- R34: the temperatures of a curve rise, said of any two of its breakpoints. -/
def Rising (curve : List Breakpoint) : Prop := curve.Pairwise fun p q => p.temp < q.temp

theorem risesStrictly_iff_isChain (curve : List Breakpoint) :
    risesStrictly curve = true ↔ (curve.map Breakpoint.temp).IsChain (· < ·) := by
  induction curve using risesStrictly.induct with
  | case1 a b rest ih => simp [risesStrictly, ih]
  | case2 curve short =>
    match curve, short with
    | [], _ => simp [risesStrictly]
    | [a], _ => simp [risesStrictly]
    | a :: b :: rest, short => exact absurd rfl (short a b rest)

theorem risesStrictly_iff_rising (curve : List Breakpoint) : risesStrictly curve = true ↔ Rising curve := by
  rw [risesStrictly_iff_isChain, List.isChain_iff_pairwise, List.pairwise_map, Rising]

theorem Rising.first_temp_le {a p : Breakpoint} {rest : List Breakpoint} (h : Rising (a :: rest)) (hp : p ∈ a :: rest) :
    a.temp ≤ p.temp := by
  rcases List.mem_cons.mp hp with rfl | later
  · exact le_rfl
  · exact (List.rel_of_pairwise_cons h later).le

/-- R34: what a curve in order is to the engine: a first breakpoint and others, each hotter than those before it, with codes of
0..4095. -/
theorem curveOk_cons {curve : List Breakpoint} (h : curveOk curve = true) :
    ∃ a rest, curve = a :: rest ∧ Rising (a :: rest) ∧ ∀ p ∈ a :: rest, p.code ≤ 4095 := by
  simp only [curveOk, Bool.and_eq_true, decide_eq_true_eq, List.all_eq_true, Breakpoint.inRange,
    risesStrictly_iff_rising] at h
  obtain ⟨⟨⟨two, _⟩, inRange⟩, rises⟩ := h
  match curve with
  | a :: rest => exact ⟨a, rest, rfl, rises, fun p hp => (inRange p hp).2.2⟩

/-! ## The walk along the breakpoints (R35) -/

theorem baseFrom_before (a : Breakpoint) {b : Breakpoint} (more : List Breakpoint) {t16 : Int} (h : t16 < 16 * b.temp) :
    baseFrom a (b :: more) t16 = interpolate a b t16 := if_pos h

theorem baseFrom_beyond (a : Breakpoint) {b : Breakpoint} (more : List Breakpoint) {t16 : Int} (h : 16 * b.temp ≤ t16) :
    baseFrom a (b :: more) t16 = baseFrom b more t16 := if_neg (by omega)

theorem curveBase_before {a : Breakpoint} (rest : List Breakpoint) {t16 : Int} (h : t16 ≤ 16 * a.temp) :
    curveBase (a :: rest) t16 = a.code := if_pos h

/-- R35: on and after the first breakpoint the base is the walk's: both rows that hold on the first breakpoint give its code. -/
theorem curveBase_eq_baseFrom {a : Breakpoint} {rest : List Breakpoint} {t16 : Int}
    (rises : Rising (a :: rest)) (h : 16 * a.temp ≤ t16) :
    curveBase (a :: rest) t16 = baseFrom a rest t16 := by
  rcases h.lt_or_eq with after | rfl
  · exact if_neg (by omega)
  · rw [curveBase_before rest le_rfl]
    cases rest with
    | nil => rfl
    | cons b more =>
      have := List.rel_of_pairwise_cons rises List.mem_cons_self
      rw [baseFrom_before a more (by omega), interpolate_at_first]

/-- R35: the walk reaches a last breakpoint that is not above the temperature. -/
theorem baseFrom_of_last_le {a last : Breakpoint} {rest : List Breakpoint} {t16 : Int} (rises : Rising (a :: rest))
    (hlast : (a :: rest).getLast? = some last) (h : 16 * last.temp ≤ t16) : baseFrom a rest t16 = last.code := by
  induction rest generalizing a with
  | nil =>
    obtain rfl : a = last := by simpa using hlast
    rfl
  | cons b more ih =>
    rw [List.getLast?_cons_cons] at hlast
    have reached : b.temp ≤ last.temp := Rising.first_temp_le rises.of_cons (List.mem_of_getLast? hlast)
    rw [baseFrom_beyond a more (by omega)]
    exact ih rises.of_cons hlast

/-- R35: the walk stops on the segment whose breakpoints enclose the temperature. -/
theorem baseFrom_of_segment {a p q : Breakpoint} {rest : List Breakpoint} {t16 : Int} {i : Nat} (rises : Rising (a :: rest))
    (hp : (a :: rest)[i]? = some p) (hq : (a :: rest)[i + 1]? = some q) (lo : 16 * p.temp ≤ t16) (hi : t16 < 16 * q.temp) :
    baseFrom a rest t16 = interpolate p q t16 := by
  induction rest generalizing a i with
  | nil => simp at hq
  | cons b more ih =>
    cases i with
    | zero =>
      obtain rfl : a = p := by simpa using hp
      obtain rfl : b = q := by simpa using hq
      exact baseFrom_before a more hi
    | succ i =>
      rw [List.getElem?_cons_succ] at hp hq
      have reached : b.temp ≤ p.temp := Rising.first_temp_le rises.of_cons (List.mem_of_getElem? hp)
      rw [baseFrom_beyond a more (by omega)]
      exact ih rises.of_cons hp hq

/-- R37: the walk ends on a code, or between two codes, of the curve. -/
theorem baseFrom_inRange {a : Breakpoint} {rest : List Breakpoint} {t16 : Int} (codes : ∀ p ∈ a :: rest, p.code ≤ 4095)
    (h : 16 * a.temp ≤ t16) : 0 ≤ baseFrom a rest t16 ∧ baseFrom a rest t16 ≤ 4095 := by
  have first := codes a List.mem_cons_self
  induction rest generalizing a with
  | nil => exact ⟨by simp [baseFrom], by simpa [baseFrom] using first⟩
  | cons b more ih =>
    have second : b.code ≤ 4095 := codes b (by simp)
    rcases lt_or_ge t16 (16 * b.temp) with before | beyond
    · have between := interpolate_between h before
      rw [baseFrom_before a more before]
      omega
    · rw [baseFrom_beyond a more beyond]
      exact ih (fun p hp => codes p (List.mem_cons_of_mem a hp)) beyond second

/-- Settles O37: below the first breakpoint the base is its code; from there on the walk along the curve finds it. -/
theorem theBaseFollowsTheCurve : Obligations.TheBaseFollowsTheCurve := by
  intro curve t16 ok
  obtain ⟨a, rest, rfl, rises, codes⟩ := curveOk_cons ok
  refine ⟨fun first hfirst h => ?_, fun last hlast h => ?_, fun i p q hp hq lo hi => ?_, ?_⟩
  · obtain rfl : a = first := by simpa using hfirst
    exact curveBase_before rest h
  · have reached := rises.first_temp_le (List.mem_of_getLast? hlast)
    rw [curveBase_eq_baseFrom rises (by omega)]
    exact baseFrom_of_last_le rises hlast h
  · have reached := rises.first_temp_le (List.mem_of_getElem? hp)
    rw [curveBase_eq_baseFrom rises (by omega), baseFrom_of_segment rises hp hq lo hi]
    exact ⟨rfl, interpolate_between lo hi⟩
  · rcases le_total t16 (16 * a.temp) with before | beyond
    · have first := codes a List.mem_cons_self
      rw [curveBase_before rest before]
      omega
    · rw [curveBase_eq_baseFrom rises beyond]
      exact baseFrom_inRange codes beyond

/-! ## Limits (R39) -/

/-- R39: the sum raised to the floor, then lowered to the ceiling. -/
theorem limitTo_target (floor ceiling : Nat) (sum : Int) :
    ((limitTo floor ceiling sum).1 : Int) = min (max sum floor) ceiling := by
  simp only [limitTo]
  split_ifs <;> omega

/-- R39, R50: the ceiling is reported before the floor. -/
theorem limitTo_limit_code (floor ceiling : Nat) (sum : Int) :
    byteOf (limitTo floor ceiling sum).2.code
      = if (ceiling : Int) < max sum floor then 2 else if sum < floor then 1 else 0 := by
  have raised : (if sum < floor then (floor : Int) else sum) = max sum floor := by omega
  simp only [limitTo, raised]
  split_ifs <;> rfl

/-! ## Fields of a request (R178) -/

@[simp] theorem byteOf_toNat_self (b : Byte) : byteOf b.toNat = b := BitVec.ofNat_toNat 8 b

@[simp] theorem byteOf_toNat (n : Nat) : (byteOf n).toNat = n % 256 := rfl

theorem u16_byteOf {n : Nat} (h : n < 65536) : u16 (byteOf n) (byteOf (n / 256)) = n := by
  simp only [u16, byteOf_toNat]
  omega

/-- R178: a signed field is read back from the bytes it is written in. -/
theorem i16_byteOf {t : Int} (lo : -32768 ≤ t) (hi : t ≤ 32767) :
    i16 (byteOf (t % 65536).toNat) (byteOf ((t % 65536).toNat / 256)) = t := by
  have word : (t % 65536).toNat < 65536 := by omega
  simp only [i16, u16_byteOf word]
  omega

theorem byteOf_congr {m n : Nat} (h : m % 256 = n % 256) : byteOf m = byteOf n := BitVec.eq_of_toNat_eq h

/-- R178: a number has the same two bytes signed and unsigned. -/
theorem le16i_natCast (n : Nat) : le16i n = le16 n := by
  have low : byteOf ((n : Int) % 65536).toNat = byteOf n := byteOf_congr (by omega)
  have high : byteOf (((n : Int) % 65536).toNat / 256) = byteOf (n / 256) := byteOf_congr (by omega)
  simp only [le16i, le16, low, high]

theorem flagIn_boolByte (on : Bool) : flagIn (boolByte on) = some on := flagIn_flag on

theorem chanIn_eq_some {b : Byte} {n : Chan} (h : b.toNat = n.val) : chanIn b = some n := by
  have inRange : b.toNat < 4 := by omega
  rw [chanIn, dif_pos inRange]
  exact congrArg some (Fin.ext h)

theorem chanIn_eq_none {b : Byte} (h : 3 < b.toNat) : chanIn b = none := dif_neg (by omega)

theorem intIn_eq_some {lo hi i : Int} (h : lo ≤ i) (h' : i ≤ hi) : intIn lo hi i = some i := if_pos ⟨h, h'⟩

theorem intIn_eq_none {lo hi i : Int} (h : i < lo ∨ hi < i) : intIn lo hi i = none := if_neg (by omega)

/-! ## The named copy (R48, R117) -/

theorem State.withCopy_active (s : State) (answer : Profile → Answer) :
    s.withCopy false answer = answer s.store.active := rfl

theorem State.withCopy_denied {s : State} (h : s.link.level ≠ .calibrate) (answer : Profile → Answer) :
    s.withCopy true answer = .only .denied := if_pos ⟨rfl, h⟩

theorem State.withCopy_noEdit {s : State} (h : s.link.level = .calibrate) (hs : s.store.staged = none)
    (answer : Profile → Answer) : s.withCopy true answer = .only .noEdit := by
  simp [State.withCopy, State.namedCopy, h, hs]

theorem State.withCopy_staged {s : State} {p : Profile} (h : s.link.level = .calibrate) (hs : s.store.staged = some p)
    (answer : Profile → Answer) : s.withCopy true answer = answer p := by
  simp [State.withCopy, State.namedCopy, h, hs]

/-! ## EVAL_CURVE (R48 to R50) -/

/-- R48: the fields of EVAL_CURVE are read in their order, the temperature as the signed value it stands for. -/
theorem evalCurveIn_fields (ch copy band : Byte) {t16 : Int} (lo : -32768 ≤ t16) (hi : t16 ≤ 32767) :
    evalCurveIn ([ch, copy] ++ le16i t16 ++ [band]) = (chanIn ch).bind fun n => (flagIn copy).bind fun staged =>
      (intIn (-880) 2400 t16).bind fun t => (chanIn band).bind fun b => some (n, staged, t, b) := by
  simp [evalCurveIn, le16i, le16, i16_byteOf lo hi]

/-- R48: a request with every field in its range names a channel, a copy, a temperature and a band. -/
theorem evalCurveIn_eq_some {ch band : Byte} {n b : Fin 4} {t16 : Int} (staged : Bool) (hch : ch.toNat = n.val)
    (hband : band.toNat = b.val) (lo : -880 ≤ t16) (hi : t16 ≤ 2400) :
    evalCurveIn ([ch, boolByte staged] ++ le16i t16 ++ [band]) = some (n, staged, t16, b) := by
  rw [evalCurveIn_fields _ _ _ (by omega) (by omega), chanIn_eq_some hch, flagIn_boolByte, intIn_eq_some lo hi,
    chanIn_eq_some hband]
  rfl

/-- R48: one field out of its range leaves nothing of the request. -/
theorem evalCurveIn_eq_none {ch copy band : Byte} {t16 : Int} (lo : -32768 ≤ t16) (hi : t16 ≤ 32767)
    (h : 3 < ch.toNat ∨ 1 < copy.toNat ∨ t16 < -880 ∨ 2400 < t16 ∨ 3 < band.toNat) :
    evalCurveIn ([ch, copy] ++ le16i t16 ++ [band]) = none := by
  rw [evalCurveIn_fields _ _ _ lo hi]
  rcases h with badChannel | badCopy | below | above | badBand
  · simp [chanIn_eq_none badChannel]
  · simp [flagIn_eq_none (Nat.not_le.mpr badCopy)]
  · simp [intIn_eq_none (.inl below)]
  · simp [intIn_eq_none (.inr above)]
  · simp [chanIn_eq_none badBand]

/-- R49, R50: the bytes of the answer, its target and limit by R39. -/
theorem evalFields_bytes {ch band : Byte} {n b : Fin 4} (hch : ch.toNat = n.val) (hband : band.toNat = b.val) (p : Profile)
    (staged : Bool) (t16 : Int) :
    (Answer.okWith (evalFields p n staged t16 b)).bytes =
      let c := p.channels.get n
      let sum := curveBase c.curve t16 + c.trim.get b
      [0, ch, boolByte staged] ++ le16i t16 ++ [band] ++ le16i (curveBase c.curve t16)
        ++ le16i (min (max sum c.floor) c.ceiling)
        ++ [if (c.ceiling : Int) < max sum c.floor then 2 else if sum < c.floor then 1 else 0] := by
  have channel : byteOf n.val = ch := by rw [← hch, byteOf_toNat_self]
  have inBand : byteOf b.val = band := by rw [← hband, byteOf_toNat_self]
  simp only [← limitTo_target, ← limitTo_limit_code, le16i_natCast, ← channel, ← inBand]
  rfl

/-- R48, R49: an EVAL_CURVE in range is answered from the copy it names, and nothing but the link changes. -/
theorem exec_evalCurve {s : State} {tag : Byte} {payload : List Byte} {n : Chan} {staged : Bool} {t16 : Int} {b : Fin 4}
    {a : Answer} (h : s.Executes .evalCurve tag payload) (fields : evalCurveIn payload = some (n, staged, t16, b))
    (copy : s.withCopy staged (fun p => .okWith (evalFields p n staged t16 b)) = a) :
    exec (.evalCurve tag payload) s = .next (s.answered .evalCurve tag payload a.bytes) := by
  subst copy
  refine exec_executes h s _ ?_ (by simp [answerResets])
  simp only [ownerServes, serveEvalCurve, fields]
  rfl

/-- Settles O38: the fields are judged by R48, then the copy, and the answer is R50's on the profile of the copy. -/
theorem evalCurveReportsBaseTargetAndLimit : Obligations.EvalCurveReportsBaseTargetAndLimit := by
  intro s tag ch copy band t16 payload answered hexec lo hi
  refine ⟨fun outside => ?_, fun n b hch hband tlo thi => ?_⟩
  · exact exec_outOfRange hexec fun u => by simp only [ownerServes, serveEvalCurve, payload, evalCurveIn_eq_none lo hi outside]
  · have inRange := fun staged => evalCurveIn_eq_some staged hch hband tlo thi
    refine ⟨?_, ?_, ?_, ?_⟩
    · rintro rfl
      have served := exec_evalCurve hexec (inRange false) (s.withCopy_active _)
      rw [evalFields_bytes hch hband] at served
      exact served
    · rintro rfl denied
      exact exec_evalCurve hexec (inRange true) (State.withCopy_denied denied _)
    · rintro rfl level closed
      exact exec_evalCurve hexec (inRange true) (State.withCopy_noEdit level closed _)
    · rintro p rfl level opened
      have served := exec_evalCurve hexec (inRange true) (State.withCopy_staged level opened _)
      rw [evalFields_bytes hch hband] at served
      exact served

end Sys2Proof.Machine

/-! The scan step (R68 to R72): what one sample does to the tallies and the re-arm flag of its channel, by whether it is counted
(R69) and whether it confirms (R72), and how the step installs that and advances. -/

namespace Sys2Proof.Machine

/-! ## The judgement of a sample (R66, R69) -/

theorem beyond_eq (k : FastKind) (threshold : Nat) (sense : BitVec 10) :
    beyond k threshold sense =
      if k = .lf then decide (sense.toNat < threshold) else decide (threshold < sense.toNat) := by
  cases k <;> rfl

/-- R69: the LF kind counts later and ends sooner than the other two. -/
theorem sampleCounts_eq (st : ChState) (blanking : BlankTimer) (k : FastKind) :
    sampleCounts st blanking k = match st with
      | .ramping => decide (k ≠ .lf ∨ blanking = .expired)
      | .active => true
      | .windingDown => decide (k ≠ .lf)
      | .disabled | .qualifying | .held | .tripped | .locked => false := by
  cases st with
  | ramping => cases k <;> simp [sampleCounts]
  | windingDown => cases k <;> rfl
  | active | disabled | qualifying | held | tripped | locked => rfl

/-! ## The tallies after a sample (R70 to R72) -/

namespace Tallies
variable (t : Tallies) (k : FastKind)

theorem discard_eq : t.discard k = { t.set k 0 with armed := if k = .lf then true else t.armed } := by
  cases k <;> rfl

/-- R71: a counted sample that is not beyond leaves what a discarded one leaves. -/
theorem count_not_beyond : t.count k false = t.discard k := by
  by_cases disarmed : k = .lf ∧ t.armed = false
  · simp [count, discard, disarmed]
  · have armed : k = .lf → t.armed = true := by simpa using disarmed
    cases k with
    | oc => rfl
    | hr => rfl
    | lf => simp [count, discard, Tallies.set, armed rfl]

/-- R71: a counted sample beyond raises the tally, except at an LF point whose flag is disarmed. -/
theorem count_beyond :
    t.count k true = if k = .lf ∧ t.armed = false then t.set k 0 else t.set k (t.get k + 1) := by
  by_cases disarmed : k = .lf ∧ t.armed = false
  · obtain ⟨rfl, flag⟩ := disarmed
    simp [count, Tallies.set, flag]
  · simp [count, disarmed]

theorem confirms_iff (isBeyond : Bool) (confirm : Nat) :
    t.confirms k isBeyond confirm = true ↔
      isBeyond = true ∧ ¬(k = .lf ∧ t.armed = false) ∧ t.get k + 1 = confirm := by
  simp [confirms, and_assoc, ← imp_iff_not_or]

end Tallies

/-! ## The step (R68) -/

theorem exec_scanStep (sense : BitVec 10) (s : State) : exec (.scanStep sense) s = execScanStep sense s := rfl

theorem exec_scanStep_stopped {s : State} (h : s.scanner.scanning = false) (sense : BitVec 10) :
    exec (.scanStep sense) s = .next s := by
  simp [exec_scanStep, execScanStep, h]

/-- The tallies of the channel of point `p`. -/
def State.pointTallies (s : State) (p : PointNumber) : Tallies := s.scanner.tallies.get (pointChan p)

/-- R66: the settings of point `p` in the active profile. -/
def State.pointSetting (s : State) (p : PointNumber) : TripSetting := (s.prof (pointChan p)).setting (pointKind p)

/-- R69: whether a sample of point `p` counts now. -/
def State.countsAt (s : State) (p : PointNumber) : Bool :=
  sampleCounts (s.channels.get (pointChan p)).state (s.channels.get (pointChan p)).blanking (pointKind p)

/-- The scanner at the next slot, with the tallies of the channel of point `p` replaced. -/
def State.advancedWith (s : State) (p : PointNumber) (t : Tallies) : State :=
  s.withScanner { s.scanner with
    position := nextSlot s.scanner.position s.store.active.scanList.length
    tallies := s.scanner.tallies.set (pointChan p) t }

section
variable {s : State} {p : PointNumber} (running : s.scanner.scanning = true)
  (slot : s.store.active.scanList[s.scanner.position]? = some p) {sense : BitVec 10} {isBeyond : Bool}
  (judged : beyond (pointKind p) (s.pointSetting p).threshold sense = isBeyond)
include running slot

/-- R68: a step samples the point in the slot at the position, then advances. -/
theorem exec_scanStep_at : exec (.scanStep sense) s = .next ((s.sample p sense).withScanner
    { (s.sample p sense).scanner with position := nextSlot s.scanner.position s.store.active.scanList.length }) := by
  simp [exec_scanStep, execScanStep, running, State.scanStep, slot]

/-- R70: a step whose sample is not counted. -/
theorem exec_scanStep_discards (uncounted : s.countsAt p = false) :
    exec (.scanStep sense) s = .next (s.advancedWith p ((s.pointTallies p).discard (pointKind p))) := by
  rw [State.countsAt] at uncounted
  rw [exec_scanStep_at running slot, State.sample, uncounted]
  rfl

include judged

/-- R71: a step whose sample is counted and does not reach the confirm count. -/
theorem exec_scanStep_counts (counted : s.countsAt p = true)
    (short : (s.pointTallies p).confirms (pointKind p) isBeyond (s.pointSetting p).confirm = false) :
    exec (.scanStep sense) s = .next (s.advancedWith p ((s.pointTallies p).count (pointKind p) isBeyond)) := by
  subst judged
  simp only [State.countsAt, State.pointTallies, State.pointSetting] at counted short
  simp only [exec_scanStep_at running slot, State.sample, counted, short]
  rfl

/-- R72: a step whose sample reaches the confirm count. -/
theorem exec_scanStep_confirms (counted : s.countsAt p = true)
    (reached : (s.pointTallies p).confirms (pointKind p) isBeyond (s.pointSetting p).confirm = true) :
    exec (.scanStep sense) s = .next ((s.advancedWith p
      ((s.pointTallies p).confirmed (pointKind p) (s.pointSetting p).policy)).setPendingTrip
        (pointChan p) (pointKind p).trip true) := by
  subst judged
  simp only [State.countsAt, State.pointTallies, State.pointSetting] at counted reached
  simp only [exec_scanStep_at running slot, State.sample, counted, reached]
  rfl

end

/-- Settles O31: a stopped scanner takes no step; a running one discards, confirms or counts the sample of its slot. -/
theorem aScanStepCountsOneSample : Obligations.AScanStepCountsOneSample := by
  intro s sense
  refine ⟨fun stopped => exec_scanStep_stopped stopped sense, ?_⟩
  intro p running slot n k t setting isBeyond counted stays confirms tallies c
  have judged : beyond k setting.threshold sense = isBeyond := beyond_eq k setting.threshold sense
  have counts : s.countsAt p = counted := sampleCounts_eq c.state c.blanking k
  rcases Bool.eq_false_or_eq_true counted with isCounted | isDiscarded
  · have reaches : t.confirms k isBeyond setting.confirm = true ↔ confirms := by
      simp only [Tallies.confirms_iff, confirms, isCounted, true_and, stays]
    by_cases confirmed : confirms
    · have cleared : tallies = t.confirmed k setting.policy := by
        simp only [tallies, isCounted, confirmed]
        rfl
      rw [exec_scanStep_confirms running slot judged (counts.trans isCounted) (reaches.mpr confirmed), if_pos confirmed,
        cleared]
      rfl
    · have tallied : tallies = t.count k isBeyond := by
        simp only [tallies, isCounted, confirmed]
        cases isBeyond with
        | false => simp [Tallies.count_not_beyond, Tallies.discard_eq]
        | true => simp [Tallies.count_beyond, stays]
      have short : t.confirms k isBeyond setting.confirm = false := Bool.eq_false_iff.mpr (mt reaches.mp confirmed)
      rw [exec_scanStep_counts running slot judged (counts.trans isCounted) short, if_neg confirmed, tallied]
      rfl
  · have unconfirmed : ¬confirms := fun ⟨isCounted, _⟩ => Bool.false_ne_true (isDiscarded.symm.trans isCounted)
    have discarded : tallies = t.discard k := by simp only [tallies, isDiscarded, if_true, Tallies.discard_eq]
    rw [exec_scanStep_discards running slot (counts.trans isDiscarded), if_neg unconfirmed, discarded]
    rfl

end Sys2Proof.Machine

/-! Evaluation with hysteresis (R89, R92, R93, R95): the tables of the warning state, the supply status, the over-temperature
condition and the supply band. -/

namespace Sys2Proof.Machine

/-! ## The warning state (R89) -/

/-- R89, rows of NORMAL: outside the window on either side, or within it. -/
theorem nextWarning_normal (win : Window) (v : Int) :
    nextWarning .normal win v = if win.high < v then .high else if v < win.low then .low else .normal := rfl

/-- R89, rows of HIGH: the far limit is judged first, so LOW follows without a NORMAL between. -/
theorem nextWarning_high (win : Window) (v : Int) :
    nextWarning .high win v = if v < win.low then .low else if v ≤ win.high - win.hyst then .normal else .high := rfl

/-- R89, rows of LOW: the far limit is judged first, so HIGH follows without a NORMAL between. -/
theorem nextWarning_low (win : Window) (v : Int) :
    nextWarning .low win v = if win.high < v then .high else if win.low + win.hyst ≤ v then .normal else .low := rfl

/-! ## The supply status (R92) and the over-temperature condition (R95) -/

section

variable (p : SupplySettings) (v : Int)

/-- R92, rows of OK. -/
theorem nextSupplyOk_ok_eq_false_iff : nextSupplyOk true p v = false ↔ v < p.driveMin ∨ (p.driveMax : Int) < v := by
  simp only [nextSupplyOk, if_true, Bool.not_eq_false', decide_eq_true_iff, gt_iff_lt]

/-- R92, rows of NOT_OK. -/
theorem nextSupplyOk_notOk_eq_true_iff :
    nextSupplyOk false p v = true ↔ (p.driveMin : Int) + p.hyst ≤ v ∧ v ≤ (p.driveMax : Int) - p.hyst := by
  simp only [nextSupplyOk, Bool.false_eq_true, if_false, decide_eq_true_iff]

/-- R95, rows of a clear condition. -/
theorem nextOverTemp_clear_eq_true_iff : nextOverTemp false p v = true ↔ 16 * p.thermalLimit ≤ v := by
  simp only [nextOverTemp, Bool.false_eq_true, if_false, decide_eq_true_iff, ge_iff_le]

/-- R95, rows of a set condition. -/
theorem nextOverTemp_set_eq_false_iff :
    nextOverTemp true p v = false ↔ v < 16 * (p.thermalLimit - p.thermalHyst) := by
  simp only [nextOverTemp, if_true, Bool.not_eq_false', decide_eq_true_iff]

end

/-! ## The supply band (R93) -/

/-- The lower edge of band `k`, for `k` of 1..3: band 0 has none. -/
def SupplySettings.bandEdge (p : SupplySettings) (k : Nat) : Int :=
  if k = 1 then (p.e1 : Int) else if k = 2 then (p.e2 : Int) else (p.e3 : Int)

/-- R93: `next` lies above the present band `b`, and its edge is the highest that `v` reaches. -/
structure SupplySettings.RisesTo (p : SupplySettings) (b next : Fin 4) (v : Int) : Prop where
  above : b.val < next.val
  reached : p.bandEdge next.val ≤ v
  highest : ∀ k, next.val < k → k ≤ 3 → v < p.bandEdge k

/-- R93: `next` is at or below the present band `b`; the edges above it up to that of `b` are left by more than the hysteresis,
and its own, if it has one, is not. -/
structure SupplySettings.FallsTo (p : SupplySettings) (b next : Fin 4) (v : Int) : Prop where
  notAbove : next ≤ b
  kept : 1 ≤ next.val → p.bandEdge next.val - p.hyst ≤ v
  left : ∀ k, next.val < k → k ≤ b.val → v < p.bandEdge k - p.hyst

section

variable {b : Fin 4} {p : SupplySettings} {v : Int}

/-- R93, Rise: the first three branches of `nextBand` try the edges above the band, the highest first. -/
theorem nextBand_risesTo (reaches : ∃ k, b.val < k ∧ k ≤ 3 ∧ p.bandEdge k ≤ v) : p.RisesTo b (nextBand b p v) v := by
  by_cases to3 : b < 3 ∧ v ≥ p.e3
  · rw [nextBand, if_pos to3]
    exact ⟨to3.1, to3.2, fun k above isEdge => absurd isEdge (Nat.not_le.mpr above)⟩
  by_cases to2 : b < 2 ∧ v ≥ p.e2
  · rw [nextBand, if_neg to3, if_pos to2]
    exact ⟨to2.1, to2.2, by grind [SupplySettings.bandEdge]⟩
  have to1 : b < 1 ∧ v ≥ p.e1 := by grind [SupplySettings.bandEdge]
  rw [nextBand, if_neg to3, if_neg to2, if_pos to1]
  exact ⟨to1.1, to1.2, by grind [SupplySettings.bandEdge]⟩

/-- R93, Fall: no edge above the band is reached, so `nextBand` tries those at or below it, the highest first. -/
theorem nextBand_fallsTo (unreached : ∀ k, b.val < k → k ≤ 3 → v < p.bandEdge k) : p.FallsTo b (nextBand b p v) v := by
  have no3 : ¬(b < 3 ∧ v ≥ p.e3) := fun ⟨above, reached⟩ => (unreached 3 above le_rfl).not_ge reached
  have no2 : ¬(b < 2 ∧ v ≥ p.e2) := fun ⟨above, reached⟩ => (unreached 2 above (by decide)).not_ge reached
  have no1 : ¬(b < 1 ∧ v ≥ p.e1) := fun ⟨above, reached⟩ => (unreached 1 above (by decide)).not_ge reached
  rw [nextBand, if_neg no3, if_neg no2, if_neg no1]
  split_ifs with keeps3 keeps2 keeps1
  · exact ⟨keeps3.1, fun _ => keeps3.2, by grind⟩
  · exact ⟨keeps2.1, fun _ => keeps2.2, by grind [SupplySettings.bandEdge]⟩
  · exact ⟨keeps1.1, fun _ => keeps1.2, by grind [SupplySettings.bandEdge]⟩
  · exact ⟨Fin.zero_le b, by grind, by grind [SupplySettings.bandEdge]⟩

end

/-- Settles O36: the four tables, row by row; the order of the band edges is not needed, as `nextBand` tries the highest first. -/
theorem hysteresisFollowsTheTables : Obligations.HysteresisFollowsTheTables := by
  refine ⟨fun win v => ⟨nextWarning_normal win v, nextWarning_high win v, nextWarning_low win v⟩,
    fun p v => ⟨nextSupplyOk_ok_eq_false_iff p v, nextSupplyOk_notOk_eq_true_iff p v, nextOverTemp_clear_eq_true_iff p v,
      nextOverTemp_set_eq_false_iff p v⟩, ?_⟩
  intro p b v _ _ edge next
  constructor
  · intro reaches
    have rises : p.RisesTo b next v := nextBand_risesTo reaches
    exact ⟨rises.above, rises.reached, rises.highest⟩
  · intro unreached
    have falls : p.FallsTo b next v := nextBand_fallsTo unreached
    exact ⟨falls.notAbove, falls.kept, falls.left⟩

end Sys2Proof.Machine

/-! The Fault Log's requests (R149 to R151): the bytes of a record by the layout of section 10.11, the records READ_LOG takes, and
what READ_LOG and CLEAR_LOG answer. -/

namespace Sys2Proof.Machine

/-! ## Plain fields are little-endian (R178) -/

theorem littleEndian_one (n : Nat) : littleEndian 1 n = [byteOf n] := by
  simp [littleEndian, byteOf]

theorem byteOf_eq_ofInt {n : Nat} {i : Int} (h : (n : Int) % 256 = i % 256) : byteOf n = BitVec.ofInt 8 i := by
  refine BitVec.eq_of_toNat_eq ?_
  simp only [byteOf_toNat, BitVec.toNat_ofInt]
  omega

theorem littleEndian_two (i : Int) : littleEndian 2 i = le16i i := by
  have low : byteOf (i % 65536).toNat = BitVec.ofInt 8 i := byteOf_eq_ofInt (by omega)
  have high : byteOf ((i % 65536).toNat / 256) = BitVec.ofInt 8 (i / 256) := byteOf_eq_ofInt (by omega)
  simp only [littleEndian, le16i, le16, low, high]

theorem extractLsb'_byte_eq_ofInt (w : W32) (start : Nat) {i : Int} (h : ((w.toNat / 2 ^ start : Nat) : Int) = i) :
    w.extractLsb' start 8 = BitVec.ofInt 8 i := by
  subst h
  rw [BitVec.ofInt_natCast]
  refine BitVec.eq_of_toNat_eq ?_
  rw [BitVec.extractLsb'_toNat, Nat.shiftRight_eq_div_pow, BitVec.toNat_ofNat]

theorem littleEndian_four (w : W32) : littleEndian 4 w.toNat = le32 w := by
  have b0 := extractLsb'_byte_eq_ofInt w 0 (i := w.toNat) (by omega)
  have b1 := extractLsb'_byte_eq_ofInt w 8 (i := w.toNat / 256) (by omega)
  have b2 := extractLsb'_byte_eq_ofInt w 16 (i := w.toNat / 256 / 256) (by omega)
  have b3 := extractLsb'_byte_eq_ofInt w 24 (i := w.toNat / 256 / 256 / 256) (by omega)
  simp only [littleEndian, le32, b0, b1, b2, b3]

/-- R178: the two bytes of a word, the second above the first. -/
theorem ofNat_u16 (lo hi : Byte) : BitVec.ofNat 16 (u16 lo hi) = hi ++ lo := by
  refine BitVec.eq_of_toNat_eq ?_
  rw [BitVec.toNat_append, ← Nat.shiftLeft_add_eq_or_of_lt lo.isLt, Nat.shiftLeft_eq, BitVec.toNat_ofNat, u16]
  omega

/-! ## The bytes of a record (R144, section 10.11) -/

theorem stateCode_eq (st : ChState) : stateCode st = byteOf st.code := by cases st <;> rfl

theorem tripKindCode_eq (k : TripKind) : tripKindCode k = byteOf (kindCode k) := by cases k <;> rfl

theorem actionCode_eq (a : Action) : actionCode a = byteOf a.code := by cases a <;> rfl

/-- Section 10.11: a record's bytes are its layout, field by field. -/
theorem FaultRecord.bytes_eq_layout (r : FaultRecord) : r.bytes = r.layout := by
  simp only [FaultRecord.bytes, FaultRecord.layout, littleEndian_one, littleEndian_two, littleEndian_four, le16i_natCast,
    stateCode_eq, tripKindCode_eq, actionCode_eq]
  cases r.snapshot <;> simp [optField, byteOf]

/-! ## Where the reply starts (R149) -/

theorem recordsFrom_append {number : BitVec 16} {before : List FaultRecord} (h : ∀ r ∈ before, r.number ≠ number)
    (start : List FaultRecord) : recordsFrom number (before ++ start) = recordsFrom number start := by
  induction before with
  | nil => rfl
  | cons r rest ih =>
    obtain ⟨other, others⟩ := List.forall_mem_cons.mp h
    rw [List.cons_append, recordsFrom, if_neg other, ih others]

theorem recordsFrom_eq_none {number : BitVec 16} {records : List FaultRecord} (h : ∀ r ∈ records, r.number ≠ number) :
    recordsFrom number records = none := by
  simpa [recordsFrom] using recordsFrom_append h []

theorem recordsFrom_head {number : BitVec 16} {start : List FaultRecord}
    (h : (start.head?.map (·.number)) = some number) : recordsFrom number start = some start := by
  cases start with
  | nil => cases h
  | cons r rest => exact if_pos (Option.some.inj h)

/-- R149: a record that bears the number starts the reply. -/
theorem startOfRead_named {number : BitVec 16} {before start : List FaultRecord} (h : ∀ r ∈ before, r.number ≠ number)
    (head : (start.head?.map (·.number)) = some number) : startOfRead number (before ++ start) = (start, false) := by
  rw [startOfRead, recordsFrom_append h, recordsFrom_head head]

/-- R149: where no record bears the number, the reply starts at the oldest and says so. -/
theorem startOfRead_moved {number : BitVec 16} {records : List FaultRecord} (h : ∀ r ∈ records, r.number ≠ number) :
    startOfRead number records = (records, true) := by
  rw [startOfRead, recordsFrom_eq_none h]

/-! ## The records that fit (R149, R150) -/

/-- The bytes that records take in a reply. -/
def bytesOfRecords (records : List FaultRecord) : Nat := (records.map fun r => r.bytes.length).sum

@[simp] theorem bytesOfRecords_cons (r : FaultRecord) (rest : List FaultRecord) :
    bytesOfRecords (r :: rest) = r.bytes.length + bytesOfRecords rest := rfl

/-- R150: nothing of `after` is taken behind `taken`: no record is left, the count is reached, or the next one does not fit. -/
def ReadEnds (count room : Nat) (taken after : List FaultRecord) : Prop :=
  after = [] ∨ taken.length = count ∨ ∃ r, after.head? = some r ∧ room < bytesOfRecords (taken ++ [r])

theorem takeFitting_eq_nil {count room : Nat} {after : List FaultRecord} (ends : ReadEnds count room [] after) :
    takeFitting count room after = [] := by
  cases after with
  | nil => rw [takeFitting]
  | cons r rest =>
    cases count with
    | zero => rfl
    | succ k =>
      obtain none_left | reached | ⟨q, next, full⟩ := ends
      · cases none_left
      · cases reached
      · cases next
        exact if_neg (Nat.not_le.mpr full)

/-- A record taken uses up one of the count and its own bytes of the room. -/
theorem ReadEnds.tail {k room : Nat} {r : FaultRecord} {taken after : List FaultRecord} (fits : r.bytes.length ≤ room)
    (ends : ReadEnds (k + 1) room (r :: taken) after) : ReadEnds k (room - r.bytes.length) taken after := by
  obtain none_left | reached | ⟨q, next, full⟩ := ends
  · exact .inl none_left
  · exact .inr (.inl (Nat.succ.inj reached))
  · rw [List.cons_append, bytesOfRecords_cons] at full
    exact .inr (.inr ⟨q, next, by omega⟩)

/-- R149, R150: the records taken are the only ones within the count and the room behind which the reply ends. -/
theorem takeFitting_append {taken after : List FaultRecord} {count room : Nat} (counted : taken.length ≤ count)
    (fits : bytesOfRecords taken ≤ room) (ends : ReadEnds count room taken after) :
    takeFitting count room (taken ++ after) = taken := by
  induction taken generalizing count room with
  | nil => exact takeFitting_eq_nil ends
  | cons r rest ih =>
    cases count with
    | zero => cases counted
    | succ k =>
      rw [bytesOfRecords_cons] at fits
      have head_fits : r.bytes.length ≤ room := by omega
      rw [List.cons_append, takeFitting, if_pos head_fits,
        ih (Nat.le_of_succ_le_succ counted) (by omega) (ends.tail head_fits)]

/-! ## READ_LOG and CLEAR_LOG -/

theorem natIn_eq_some {lo hi n : Nat} (h : lo ≤ n) (h' : n ≤ hi) : natIn lo hi n = some n := if_pos ⟨h, h'⟩

theorem natIn_eq_none {lo hi n : Nat} (h : n < lo ∨ hi < n) : natIn lo hi n = none := if_neg (by omega)

theorem optField_trip_number (r : Option FaultRecord) :
    optField (r.map fun r => le16 r.number.toNat) = match r with
      | none => [0]
      | some r => 1 :: le16 r.number.toNat := by
  cases r <;> rfl

/-- R150: the fields of the reply, for the start and the records that R149 and R150 give. -/
theorem readLogFields_eq {l : FaultLog} {number : BitVec 16} {count : Nat} {taken after : List FaultRecord} {moved : Bool}
    (start : startOfRead number l.records = (taken ++ after, moved)) (counted : taken.length ≤ count)
    (fits : bytesOfRecords taken ≤ recordRoom) (ends : ReadEnds count recordRoom taken after) :
    readLogFields l number count =
      [boolByte moved] ++ optField (l.records.head?.map fun r => le16 r.number.toNat)
        ++ optField (l.records.getLast?.map fun r => le16 r.number.toNat)
        ++ [byteOf taken.length] ++ taken.flatMap FaultRecord.bytes := by
  simp only [readLogFields, start, takeFitting_append counted fits ends]

/-- R149: a READ_LOG with its count in range is answered with the fields of R150, and nothing but the link changes. -/
theorem exec_readLog {s : State} {tag n0 n1 count : Byte} (h : s.Executes .readLog tag [n0, n1, count])
    (lo : 1 ≤ count.toNat) (hi : count.toNat ≤ 4) :
    exec (.readLog tag [n0, n1, count]) s = .next (s.answered .readLog tag [n0, n1, count]
      (0 :: readLogFields s.log (n1 ++ n0) count.toNat)) := by
  refine exec_executes h s (.okWith (readLogFields s.log (n1 ++ n0) count.toNat)) ?_ (by simp [answerResets])
  simp only [ownerServes, serveReadLog, natIn_eq_some lo hi, ofNat_u16]
  rfl

/-- R149: a READ_LOG with any other count is answered RANGE. -/
theorem exec_readLog_outOfRange {s : State} {tag n0 n1 count : Byte} (h : s.Executes .readLog tag [n0, n1, count])
    (outside : count.toNat < 1 ∨ 4 < count.toNat) :
    exec (.readLog tag [n0, n1, count]) s = .next (s.answered .readLog tag [n0, n1, count] [4]) :=
  exec_outOfRange h fun u => by simp only [ownerServes, serveReadLog, natIn_eq_none outside]

/-- R151: CLEAR_LOG removes every record, keeps the next trip number and answers how many records there were. -/
theorem exec_clearLog {s : State} {tag : Byte} (h : s.Executes .clearLog tag []) :
    exec (.clearLog tag []) s = .next (({ s with log := { s.log with records := [] } } : State).answered .clearLog tag []
      [0, byteOf s.log.records.length]) :=
  exec_executes h { s with log := { s.log with records := [] } } (.okWith [byteOf s.log.records.length]) rfl
    (by simp [answerResets])

/-- Settles O50: the layout field by field; READ_LOG by its start (R149) and the records that fit behind it (R150); CLEAR_LOG. -/
theorem theLogIsReadAndCleared : Obligations.TheLogIsReadAndCleared := by
  refine ⟨FaultRecord.bytes_eq_layout, fun s tag => ⟨fun n0 n1 count hexec => ⟨fun outside => ?_, ?_⟩, exec_clearLog⟩⟩
  · refine exec_readLog_outOfRange hexec (outside.imp_left ?_)
    rintro rfl
    decide
  · rintro before _ taken after moved lo hi records rfl starts counted fits ends
    have start : startOfRead (n1 ++ n0) s.log.records = (taken ++ after, moved) := by
      rw [records] at starts ⊢
      obtain ⟨rfl, head, others⟩ | ⟨rfl, rfl, others⟩ := starts
      · exact startOfRead_named others head
      · exact startOfRead_moved others
    have fits' : bytesOfRecords taken ≤ recordRoom := Nat.le_of_add_le_add_left (a := 9) fits
    have ends' : ReadEnds count.toNat recordRoom taken after :=
      ends.imp_right fun h => h.imp_right fun ⟨r, next, full⟩ => ⟨r, next, Nat.lt_of_add_lt_add_left (n := 9) full⟩
    rw [exec_readLog hexec lo hi, readLogFields_eq start counted fits' ends', optField_trip_number, optField_trip_number]
    rfl

end Sys2Proof.Machine

/-! The requests that report and change no state: IDENTIFY (R183), STORE_STATUS (R139), CHANNEL_STATUS (R32) and READ_SCAN (R80),
with the bytes of their replies. -/

namespace Sys2Proof

theorem Quad.toList_eq_map_get {α : Type} (q : Quad α) : q.toList = allChans.map q.get := rfl

end Sys2Proof

namespace Sys2Proof.Machine

/-- R13, R174: a request whose owner answers OK with fields and keeps the state it was given changes the link alone, and leaves RXD high. -/
theorem exec_reports {s : State} {r : RequestName} {tag : Byte} {payload fields : List Byte} (h : s.Executes r tag payload)
    (notReset : r ≠ .resetPart)
    (owner : ownerServes r payload (s.asked r tag payload) = (s.asked r tag payload, .okWith fields)) :
    exec (requestCommand r tag payload) s = .next (s.answered r tag payload (0 :: fields)) :=
  exec_executes h s (.okWith fields) owner (by simp [answerResets, requestOfCode_code, notReset])

/-! ## The bytes of the replies (R178, section 10.11) -/

/-- R183: the family and variant texts by their characters, and the part's fixed numbers. -/
theorem identifyFields_bytes :
    identifyFields = [5, 0x55, 0x48, 0x52, 0x49, 0x4E, 2, 0x42, 0x34, 3, 1, 4, 16, 16, 24, 16] := rfl

/-- R80: the tallies and the re-arm flags are reported channel by channel. -/
theorem readScanFields_eq (s : State) :
    readScanFields s = [byteOf s.store.active.scanList.length] ++ (s.store.active.scanList.map fun p => byteOf p.val)
      ++ (allChans.flatMap fun n => [byteOf (s.scanner.tallies.get n).oc, byteOf (s.scanner.tallies.get n).hr,
        byteOf (s.scanner.tallies.get n).lf])
      ++ (allChans.map fun n => boolByte (s.scanner.tallies.get n).armed) := by
  simp only [readScanFields, Quad.toList_eq_map_get, List.flatMap_map, List.map_map, Function.comp_def]

/-! ## The requests -/

theorem exec_identify {s : State} {tag : Byte} (h : s.Executes .identify tag []) :
    exec (.identify tag []) s = .next (s.answered .identify tag [] (0 :: identifyFields)) :=
  exec_reports h (by decide) rfl

theorem exec_storeStatus {s : State} {tag : Byte} (h : s.Executes .storeStatus tag []) :
    exec (.storeStatus tag []) s = .next (s.answered .storeStatus tag [] (0 :: storeStatusFields s)) :=
  exec_reports h (by decide) rfl

/-- R32: a CHANNEL_STATUS of a channel of the part. -/
theorem exec_channelStatus {s : State} {tag ch : Byte} {n : Chan} (h : s.Executes .channelStatus tag [ch])
    (names : ch.toNat = n.val) :
    exec (.channelStatus tag [ch]) s = .next (s.answered .channelStatus tag [ch] (0 :: statusFields s n)) := by
  refine exec_reports h (by decide) ?_
  simp only [ownerServes, serveChannelStatus, chanIn_eq_some names]
  rfl

/-- R32: a CHANNEL_STATUS of a channel above 3 is answered RANGE. -/
theorem exec_channelStatus_outOfRange {s : State} {tag ch : Byte} (h : s.Executes .channelStatus tag [ch])
    (above : 3 < ch.toNat) :
    exec (.channelStatus tag [ch]) s = .next (s.answered .channelStatus tag [ch] [4]) :=
  exec_outOfRange h fun u => by simp only [ownerServes, serveChannelStatus, chanIn_eq_none above]

theorem exec_readScan {s : State} {tag : Byte} (h : s.Executes .readScan tag []) :
    exec (.readScan tag []) s = .next (s.answered .readScan tag [] (0 :: readScanFields s)) :=
  exec_reports h (by decide) rfl

/-- Settles O48: each request's owner keeps its state and answers its fields, which are then read byte by byte, with the
optional field of STORE_STATUS and of CHANNEL_STATUS absent or present. -/
theorem statusRequestsOnlyReport : Obligations.StatusRequestsOnlyReport := by
  refine fun s tag => ⟨fun h => ?identify, fun h => ?storeStatus, fun ch h => ⟨exec_channelStatus_outOfRange h, ?channelStatus⟩,
    fun h => ?readScan⟩
  case identify => rw [exec_identify h, identifyFields_bytes]
  case storeStatus =>
    rw [exec_storeStatus h, storeStatusFields]
    cases s.nv.op <;> rfl
  case channelStatus =>
    intro n names
    have channel : byteOf n.val = ch := by rw [names, byteOf_toNat_self]
    rw [exec_channelStatus h names.symm, statusFields, channel]
    dsimp only
    cases (s.channels.get n).lastTrip <;> rfl
  case readScan =>
    rw [exec_readScan h, readScanFields_eq]
    rfl

end Sys2Proof.Machine

/-! What the works on channels, targets, scanner and sequencer leave alone, and what they tell: `State.Reports`. The store, the
link and the other blocks stay, notices are only posted, and records only appended to the Fault Log. -/

namespace Sys2Proof.Machine

/-- R145: the log keeps its records and its next trip number, or takes one record of a trip carried out. -/
def FaultLog.Grows (l m : FaultLog) : Prop :=
  (m.records = l.records ∧ m.next = l.next)
  ∨ ∃ r : FaultRecord, r.number = l.next ∧ r.stateAtTrip.takesTrips = true ∧ m.records = (l.append r).records
    ∧ m.next = (l.append r).next

/-- Work on the channels and what they depend on: told in notices, recorded in the log, and felt nowhere else. -/
structure State.Reports (s t : State) : Prop where
  store : t.store = s.store
  nv : t.nv = s.nv
  link : t.link = s.link
  startup : t.startup = s.startup
  pins : t.pins = s.pins
  pending : t.pending = s.pending
  notices : ∃ bodies, t.notices = s.notices.postAll bodies
  log : Relation.ReflTransGen FaultLog.Grows s.log t.log

theorem State.Reports.trans {s t u : State} (h : s.Reports t) (k : t.Reports u) : s.Reports u where
  store := k.store.trans h.store
  nv := k.nv.trans h.nv
  link := k.link.trans h.link
  startup := k.startup.trans h.startup
  pins := k.pins.trans h.pins
  pending := k.pending.trans h.pending
  notices := by
    obtain ⟨first, hf⟩ := h.notices
    obtain ⟨second, hs⟩ := k.notices
    exact ⟨first ++ second, by rw [hs, hf, NoticeQueue.postAll_append]⟩
  log := h.log.trans k.log

/-- Without a notice or a record. -/
theorem State.Reports.silent {s t : State} (store : t.store = s.store) (nv : t.nv = s.nv) (link : t.link = s.link)
    (startup : t.startup = s.startup) (pins : t.pins = s.pins) (pending : t.pending = s.pending)
    (notices : t.notices = s.notices) (log : s.SameLog t) : s.Reports t :=
  { store, nv, link, startup, pins, pending, notices := ⟨[], notices⟩, log := .single (.inl log) }

section

variable (s : State) (n : Chan)

theorem State.Reports.refl : s.Reports s := .silent rfl rfl rfl rfl rfl rfl rfl ⟨rfl, rfl⟩

theorem State.setChan_reports (c : Channel) : s.Reports (s.setChan n c) := .silent rfl rfl rfl rfl rfl rfl rfl ⟨rfl, rfl⟩

theorem State.setDrive_reports (d : DriveStage) : s.Reports (s.setDrive n d) :=
  .silent rfl rfl rfl rfl rfl rfl rfl ⟨rfl, rfl⟩

theorem State.withScanner_reports (x : Scanner) : s.Reports (s.withScanner x) :=
  .silent rfl rfl rfl rfl rfl rfl rfl ⟨rfl, rfl⟩

theorem State.withSeq_reports (x : Sequencer) : s.Reports (s.withSeq x) := .silent rfl rfl rfl rfl rfl rfl rfl ⟨rfl, rfl⟩

theorem State.withTargets_reports (x : Quad Nat) : s.Reports (s.withTargets x) :=
  .silent rfl rfl rfl rfl rfl rfl rfl ⟨rfl, rfl⟩

theorem State.post_reports (b : NoticeBody) : s.Reports (s.post b) :=
  { State.Reports.refl s with notices := ⟨[b], rfl⟩ }

theorem State.move_reports (st : ChState) : s.Reports (s.move n st) :=
  .silent rfl rfl rfl rfl rfl rfl rfl (s.move_sameLog n st)

/-- A channel's move along a path reports. -/
theorem State.MovesOnly.reports {s t : State} {n : Chan} {v : ChanView} {path : Path} (h : s.MovesOnly t n v path) :
    s.Reports t where
  store := h.elsewhere.store
  nv := h.elsewhere.nv
  link := h.elsewhere.lines.1
  startup := h.elsewhere.startup
  pins := h.elsewhere.lines.2
  pending := h.elsewhere.pending
  notices := ⟨_, h.told⟩
  log := .single (.inl h.log)

theorem State.transition_reports (st : ChState) (cause : Cause) : s.Reports (s.transition n st cause) :=
  (s.move_reports n st).trans (State.post_reports _ _)

theorem State.enterQualifying_reports (cause : Cause) : s.Reports (s.enterQualifying n cause) :=
  (s.enterQualifying_movesOnly n cause).reports

theorem State.reevaluate_reports (cause : Cause) : s.Reports (s.reevaluate n cause) := by
  unfold State.reevaluate
  split_ifs
  · exact s.transition_reports n .ramping cause
  · exact s.setChan_reports n _
  · exact .refl s

theorem State.startWanted_reports (cause : Cause) : s.Reports (s.startWanted n cause) :=
  (s.startWanted_movesOnly n cause).reports

theorem State.holdChanged_reports (before : Bool) : s.Reports (s.holdChanged n before) :=
  (s.holdChanged_movesOnly n before).reports

/-- An effect on each channel in turn reports where each turn does. -/
theorem forEachChan_reports {f : State → Chan → State} (h : ∀ (s : State) (n : Chan), s.Reports (f s n)) : s.Reports (forEachChan f s) :=
  (((h _ 0).trans (h _ 1)).trans (h _ 2)).trans (h _ 3)

/-! ## Trips (R19, R145) -/

/-- R19 steps 2 to 4: the record of a trip is appended under the next trip number. -/
theorem State.recordTrip_reports {s : State} {n : Chan} (takes : (s.channels.get n).state.takesTrips = true)
    (kind : TripKind) (a : Action) : s.Reports (s.recordTrip n kind a) :=
  { State.Reports.refl s with log := .single (.inr ⟨s.tripRecord n kind a, rfl, takes, rfl, rfl⟩) }

theorem State.takeTrip_reports (kind : TripKind) : s.Reports (s.takeTrip n kind) := by
  unfold State.takeTrip
  by_cases takes : (s.channels.get n).state.takesTrips = true
  · simp only [takes, if_true]
    refine (State.recordTrip_reports takes kind (s.tripAction n kind)).trans ?_
    split
    · exact State.post_reports _ _
    · exact ((State.move_reports _ _ _).trans (State.post_reports _ _)).trans (State.post_reports _ _)
  · simpa [takes] using State.Reports.refl s

theorem State.confirmOverTemp_reports : s.Reports s.confirmOverTemp :=
  forEachChan_reports s fun s n => s.takeTrip_reports n .ot

theorem State.takeConfirmation_reports (kind : TripKind) : s.Reports (s.takeConfirmation n kind) :=
  (s.setChan_reports n _).trans (State.takeTrip_reports _ n kind)

/-! ## Conditions and profiles -/

theorem State.supplyLost_reports : s.Reports (s.supplyLost n) := (s.supplyLost_movesOnly n).reports

theorem State.supplyChanged_reports : s.Reports (s.supplyChanged n) := by
  unfold State.supplyChanged
  split_ifs
  · exact s.reevaluate_reports n .ready
  · exact .refl s
  · exact s.supplyLost_reports n

theorem State.postSupply_reports : s.Reports s.postSupply := s.post_reports _

theorem State.recomputeTargets_reports : s.Reports s.recomputeTargets := s.withTargets_reports _

theorem State.takeProfile_reports (was : Profile) : s.Reports (s.takeProfile was) :=
  .silent rfl rfl rfl rfl rfl rfl rfl ⟨rfl, rfl⟩

theorem State.supplyReplaced_reports (was : Bool) : s.Reports (s.supplyReplaced was) := by
  unfold State.supplyReplaced
  split_ifs
  · exact .refl s
  · exact s.postSupply_reports
  · exact s.postSupply_reports.trans (forEachChan_reports _ State.supplyLost_reports)

theorem State.overTempReplaced_reports (was : Bool) : s.Reports (s.overTempReplaced was) := by
  unfold State.overTempReplaced
  split
  · exact s.confirmOverTemp_reports
  · exact .refl s

/-- R121 steps 2 to 9: beyond the active profile itself, a replacement is work on the channels. -/
theorem State.install_reports (p : Profile) : (s.withStore { s.store with active := p }).Reports (s.install p) :=
  (((State.takeProfile_reports _ _).trans (State.supplyReplaced_reports _ _)).trans
    (State.overTempReplaced_reports _ _)).trans (forEachChan_reports _ fun s n => s.reevaluate_reports n .commit)

/-! ## Channel events -/

theorem State.blankingExpires_reports : s.Reports (s.blankingExpires n) := by
  unfold State.blankingExpires
  split
  · exact (s.setChan_reports n _).trans (State.transition_reports _ n .active .settled)
  · exact s.setChan_reports n _

theorem State.stableExpires_reports : s.Reports (s.stableExpires n) := s.setChan_reports n _

theorem State.retryExpires_reports : s.Reports (s.retryExpires n) := s.enterQualifying_reports n .retryDue

theorem State.trackReport_reports : s.Reports (s.trackReport n) := by
  unfold State.trackReport
  split
  · exact s.transition_reports n .active .settled
  · exact .refl s

theorem State.windTick_reports : s.Reports (s.windTick n) := by
  unfold State.windTick State.arriveParked
  dsimp only
  split_ifs
  · exact (s.setDrive_reports n _).trans (State.transition_reports _ n .disabled .parked)
  · exact s.setDrive_reports n _
  · exact s.setDrive_reports n _

theorem State.rampTick_reports : s.Reports (s.rampTick n) := by
  unfold State.rampTick
  split
  · exact (s.setDrive_reports n _).trans (State.trackReport_reports _ n)
  · exact s.windTick_reports n
  · exact .refl s
  · exact .refl s

/-! ## Scanner and sequencer -/

theorem State.sample_reports (p : PointNumber) (sense : BitVec 10) : s.Reports (s.sample p sense) := by
  unfold State.sample
  dsimp only
  split_ifs
  · exact (s.withScanner_reports _).trans (State.setChan_reports _ _ _)
  · exact s.withScanner_reports _
  · exact s.withScanner_reports _

theorem State.scanStep_reports (sense : BitVec 10) : s.Reports (s.scanStep sense) := by
  unfold State.scanStep
  split
  · exact .refl s
  · exact (s.sample_reports _ sense).trans (State.withScanner_reports _ _)

theorem State.takeResult_reports (p : Point) (v : Int) : s.Reports (s.takeResult p v) :=
  .silent rfl rfl rfl rfl rfl rfl rfl (by cases p <;> exact ⟨rfl, rfl⟩)

theorem State.evaluateWarning_reports (p : Point) : s.Reports (s.evaluateWarning p) := by
  unfold State.evaluateWarning
  dsimp only
  split_ifs
  · exact .refl s
  · exact (s.withSeq_reports _).trans (State.post_reports _ _)

theorem State.tempSteps_reports (wasValid : Bool) : s.Reports (s.tempSteps wasValid) := by
  have judged : s.Reports ((s.evaluateWarning .temp).recomputeTargets).evaluateOverTemp :=
    ((s.evaluateWarning_reports .temp).trans (State.recomputeTargets_reports _)).trans (State.withSeq_reports _ _)
  have ready : ∀ u : State, u.Reports (forEachChan (fun s n => s.reevaluate n .ready) u) := fun u =>
    forEachChan_reports u fun s n => s.reevaluate_reports n .ready
  unfold State.tempSteps
  dsimp only
  split_ifs
  · exact (judged.trans (State.confirmOverTemp_reports _)).trans (ready _)
  · exact judged.trans (ready _)
  · exact judged.trans (State.confirmOverTemp_reports _)
  · exact judged

theorem State.evaluateBand_reports : s.Reports s.evaluateBand := by
  unfold State.evaluateBand
  dsimp only
  split_ifs
  · exact .refl s
  · exact (s.withSeq_reports _).trans (State.recomputeTargets_reports _)

theorem State.evaluateSupply_reports : s.Reports s.evaluateSupply := by
  unfold State.evaluateSupply
  dsimp only
  split_ifs
  · exact .refl s
  · exact ((s.withSeq_reports _).trans (State.postSupply_reports _)).trans
      (forEachChan_reports _ State.supplyChanged_reports)

theorem State.completionSteps_reports (p : Point) (wasValid : Bool) : s.Reports (s.completionSteps p wasValid) := by
  cases p with
  | temp => exact s.tempSteps_reports wasValid
  | supply =>
    exact ((s.evaluateWarning_reports .supply).trans (State.evaluateBand_reports _)).trans
      (State.evaluateSupply_reports _)
  | chan n k =>
    unfold State.completionSteps State.chanPointSteps
    dsimp only
    split_ifs
    · exact s.evaluateWarning_reports _
    · exact .refl s

theorem State.conversionCompletes_reports (v : Int) : s.Reports (s.conversionCompletes v) :=
  ((s.takeResult_reports _ _).trans (State.completionSteps_reports _ _ _)).trans (State.withSeq_reports _ _)

/-! ## Channel requests (R13) -/

theorem overMask_reports {work : State → Chan → State × ChanResult} (h : ∀ (s : State) (n : Chan), s.Reports (work s n).1) (mask : Byte) :
    s.Reports (overMask mask work s).1 := by
  have named : ∀ (acc : State × List ChanResult) (n : Chan), acc.1.Reports (nameChan mask work acc n).1 := by
    intro acc n
    unfold nameChan
    split
    · exact h acc.1 n
    · exact .refl acc.1
  have walk : ∀ (l : List Chan) (acc : State × List ChanResult), acc.1.Reports (l.foldl (nameChan mask work) acc).1 := by
    intro l
    induction l with
    | nil => exact fun acc => .refl acc.1
    | cons n rest ih => exact fun acc => (named acc n).trans (ih _)
  exact walk allChans (s, [])

end

end Sys2Proof.Machine

/-! What a step can do, said once. A command is carried out in three parts: the link takes what arrives, one block does its work,
and the link makes its choice. `State.LineOnly` bounds what the first and the last part change, `State.Works` lists the works, and
`exec_works` says that there is nothing else. -/

namespace Sys2Proof.Machine

/-! ## What the link does by itself -/

/-- R159: one more notice is marked SENT, within the window. -/
def NoticeQueue.MarksOne (q r : NoticeQueue) : Prop :=
  (q.queue.filter (·.sent)).length < Config.noticeWindow ∧ r = { q with queue := markFirstUnsent q.queue }

/-- The link has worked by itself: it has received, queued, composed or begun to send. The session, the other blocks and the
queue of waiting commands stay, and the notices but for markings; in RESET_HELD with a CLOSED session an empty queue and an IDLE
transmitter stay so. -/
structure State.LineOnly (s t : State) : Prop where
  channels : t.channels = s.channels
  targets : t.targets = s.targets
  drive : t.drive = s.drive
  scanner : t.scanner = s.scanner
  seq : t.seq = s.seq
  store : t.store = s.store
  nv : t.nv = s.nv
  log : t.log = s.log
  startup : t.startup = s.startup
  pending : t.pending = s.pending
  notices : Relation.ReflTransGen NoticeQueue.MarksOne s.notices t.notices
  session : t.link.opened = s.link.opened ∧ t.link.level = s.link.level
  lockout : t.link.failures = s.link.failures ∧ t.link.lockout = s.link.lockout
  resetPending : t.link.resetPending = s.link.resetPending
  pins : t.pins.hold = s.pins.hold ∧ t.pins.supplyGood = s.pins.supplyGood
  still : s.startup.phase = .resetHeld → s.link.opened = false → s.link.queue = [] → s.link.tx = .idle →
    t.link.queue = [] ∧ t.link.tx = .idle

theorem State.LineOnly.refl (s : State) : s.LineOnly s := by
  constructor <;> first | rfl | exact ⟨rfl, rfl⟩ | exact .refl | exact fun _ _ hq ht => ⟨hq, ht⟩

theorem State.LineOnly.trans {s t u : State} (h : s.LineOnly t) (k : t.LineOnly u) : s.LineOnly u where
  channels := k.channels.trans h.channels
  targets := k.targets.trans h.targets
  drive := k.drive.trans h.drive
  scanner := k.scanner.trans h.scanner
  seq := k.seq.trans h.seq
  store := k.store.trans h.store
  nv := k.nv.trans h.nv
  log := k.log.trans h.log
  startup := k.startup.trans h.startup
  pending := k.pending.trans h.pending
  notices := h.notices.trans k.notices
  session := ⟨k.session.1.trans h.session.1, k.session.2.trans h.session.2⟩
  lockout := ⟨k.lockout.1.trans h.lockout.1, k.lockout.2.trans h.lockout.2⟩
  resetPending := k.resetPending.trans h.resetPending
  pins := ⟨k.pins.1.trans h.pins.1, k.pins.2.trans h.pins.2⟩
  still := fun hp ho hq ht => by
    obtain ⟨hq', ht'⟩ := h.still hp ho hq ht
    exact k.still (h.startup ▸ hp) (h.session.1.trans ho) hq' ht'

/-- A link that keeps the session may replace the present one. -/
theorem State.LineOnly.withLink {s : State} {l : Link} (session : l.opened = s.link.opened ∧ l.level = s.link.level)
    (lockout : l.failures = s.link.failures ∧ l.lockout = s.link.lockout) (reset : l.resetPending = s.link.resetPending)
    (still : s.startup.phase = .resetHeld → s.link.opened = false → s.link.queue = [] → s.link.tx = .idle →
      l.queue = [] ∧ l.tx = .idle) : s.LineOnly (s.withLink l) :=
  { State.LineOnly.refl s with session, lockout, resetPending := reset, still }

/-- RXD takes a level. -/
theorem State.rxdLevel_lineOnly (s : State) (low : Bool) : s.LineOnly (s.withPins { s.pins with rxdLow := low }) :=
  { State.LineOnly.refl s with pins := ⟨rfl, rfl⟩ }

theorem State.rxdHigh_lineOnly (s : State) : s.LineOnly s.rxdHigh :=
  { State.LineOnly.refl s with still := fun _ _ hq ht => ⟨hq, ht⟩ }

theorem State.rxdFalls_lineOnly (s : State) : s.LineOnly s.rxdFalls :=
  { State.LineOnly.refl s with still := fun _ _ hq ht => ⟨hq, ht⟩ }

theorem State.hunt_lineOnly (s : State) : s.LineOnly s.hunt :=
  .withLink ⟨rfl, rfl⟩ ⟨rfl, rfl⟩ rfl fun _ _ hq ht => ⟨hq, ht⟩

theorem State.collecting_lineOnly (s : State) (bytes : List Byte) : s.LineOnly (s.collecting bytes) :=
  .withLink ⟨rfl, rfl⟩ ⟨rfl, rfl⟩ rfl fun _ _ hq ht => ⟨hq, ht⟩

theorem State.huntByte_lineOnly (s : State) (b : Byte) : s.LineOnly (s.huntByte b) := by
  unfold State.huntByte
  split
  · exact s.collecting_lineOnly []
  · exact s.hunt_lineOnly

theorem State.lengthByte_lineOnly (s : State) (b : Byte) : s.LineOnly (s.lengthByte b) := by
  unfold State.lengthByte
  split
  · exact s.collecting_lineOnly [b]
  · exact s.hunt_lineOnly.trans (s.hunt.huntByte_lineOnly b)

/-- Outside RESET_HELD, or with an entry held, the request queue may be replaced. -/
theorem State.withQueue_lineOnly {s : State} {q : List Entry} (h : s.startup.phase = .resetHeld → s.link.queue ≠ []) :
    s.LineOnly (s.withQueue q) :=
  .withLink ⟨rfl, rfl⟩ ⟨rfl, rfl⟩ rfl fun hp _ hq _ => absurd hq (h hp)

/-- A transmitter that sends becomes free. -/
theorem State.txIdle_lineOnly {s : State} (h : s.link.tx ≠ .idle) : s.LineOnly s.txIdle :=
  .withLink ⟨rfl, rfl⟩ ⟨rfl, rfl⟩ rfl fun _ _ _ ht => absurd ht h

/-- R159: a notice is offered in an OPEN session, within the window. -/
theorem State.offered_eq_some {s : State} {n : Notice} (h : s.offered = some n) :
    s.link.opened = true ∧ (s.notices.queue.filter (·.sent)).length < Config.noticeWindow := by
  unfold State.offered at h
  split at h
  · assumption
  · cases h

/-- R177: the transmitter's choice is the link's own work. -/
theorem State.settle_lineOnly (s : State) : s.LineOnly s.settle := by
  rcases s.settle_cases with ⟨_, h⟩ | ⟨_, r, ready, h⟩ | ⟨_, _, n, offered, h⟩ | ⟨_, _, _, h⟩ <;> rw [h]
  · exact .refl s
  · refine .withLink ⟨rfl, rfl⟩ ⟨rfl, rfl⟩ rfl fun _ _ hq _ => ?_
    simp [Link.readyReply, hq] at ready
  · obtain ⟨opened, window⟩ := State.offered_eq_some offered
    have marked : Relation.ReflTransGen NoticeQueue.MarksOne s.notices (s.beginNotice n).notices :=
      .single ⟨window, rfl⟩
    exact { State.LineOnly.refl s with
      notices := marked
      still := fun _ closed => by simp [opened] at closed }
  · exact .refl s

/-! ## What the owner of a request does (R174 step 7) -/

/-- The state an owner leaves when it executes a request, with what it has judged to come there. -/
inductive State.Serves (s : State) : RequestName → State → Prop
  | nothing (r : RequestName) : s.Serves r s
  | hello : s.Serves .hello s.hello
  | bye : s.Serves .bye (((s.closeEdit .bye).unsendNotices).setSession false .observe)
  | grants {l : Level} (granted : l.code ≤ s.link.level.code ∨ l = .operate) : s.Serves .setLevel (s.grantLevel l)
  | codeRight (free : s.link.lockout = .stopped) : s.Serves .setLevel s.codeRight
  | codeWrong (free : s.link.lockout = .stopped) : s.Serves .setLevel s.codeWrong
  | noticeMask {mask : BitVec 7} (start : mask.getLsbD 0 = true) :
      s.Serves .setNoticeMask (s.withNotices { s.notices with mask := mask })
  | ackNotices {seq : Byte} (sent : s.notices.queue.any (isSentAs seq) = true) :
      s.Serves .ackNotices (s.withNotices { s.notices with
        queue := dropThrough seq s.notices.queue, ack := ackTimerFor (dropThrough seq s.notices.queue) })
  | resetPart (idle : s.nv.op = none) : s.Serves .resetPart (s.withLink { s.link with resetPending := true })
  | enable (mask : Byte) : s.Serves .enable (overMask mask enableChan s).1
  | disable (mask : Byte) : s.Serves .disable (overMask mask disableChan s).1
  | clear (mask : Byte) : s.Serves .clear (overMask mask clearChan s).1
  | softHold (mask : Byte) (on : Bool) : s.Serves .softHold (overMask mask (softHoldChan on) s).1
  | openEdit (closed : s.store.staged = none) :
      s.Serves .openEdit
        (s.withStore { s.store with staged := some s.store.active, idle := .running Config.editIdlePeriod })
  | abandonEdit : s.Serves .abandonEdit s.dropEdit
  | put {r : RequestName} {payload : List Byte} {p q : Profile} (isPut : r ∈ putRequests)
      (staged : s.store.staged = some p) (taken : stagedAfter r payload p = some q) :
      s.Serves r (s.withStore { s.store with staged := some q, idle := .running Config.editIdlePeriod })
  | commit {p : Profile} (staged : s.store.staged = some p) (more : s.store.active.generation ≠ 4294967295)
      (passes : firstFailure p s.isRunning = none) : s.Serves .commit (s.commit p)
  | commitPersist {p : Profile} (staged : s.store.staged = some p) (more : s.store.active.generation ≠ 4294967295)
      (passes : firstFailure p s.isRunning = none) (idle : s.nv.op = none) : s.Serves .commit (s.commit p).startPersist
  | persist (idle : s.nv.op = none) : s.Serves .persist s.startPersist
  | revert {slot : SlotName} (closed : s.store.staged = none) (still : ∀ n, s.isRunning n = false) (idle : s.nv.op = none)
      (newest : newestValid s.nv.statusA s.nv.statusB = some slot) : s.Serves .revert (s.install (s.nv.image slot))
  | clearLog : s.Serves .clearLog (s.withLog { s.log with records := [] })

theorem serveMask_serves {s : State} {r : RequestName} {work : State → Chan → State × ChanResult}
    (h : ∀ mask, s.Serves r (overMask mask work s).1) (payload : List Byte) : s.Serves r (serveMask payload work s).1 := by
  unfold serveMask
  split
  · split
    · exact .nothing r
    · exact h _
  · exact .nothing r

theorem servePut_serves {r : RequestName} (isPut : r ∈ putRequests) (payload : List Byte) (s : State) :
    s.Serves r (servePut (stagedAfter r payload) s).1 := by
  unfold servePut
  split
  · exact .nothing r
  · rename_i p staged
    split
    · exact .nothing r
    · rename_i q taken
      exact .put isPut staged taken

theorem serveSetLevel_serves (payload : List Byte) (s : State) : s.Serves .setLevel (serveSetLevel payload s).1 := by
  unfold serveSetLevel
  split
  · split
    · exact .nothing _
    · split_ifs with granted
      · exact .grants granted
      · unfold State.judgeCode
        split
        · exact .nothing _
        · rename_i free
          split_ifs
          · exact .codeRight free
          · exact .codeWrong free
  · exact .nothing _

theorem startTerm_kept (m : Byte) : (m.setWidth 7 ||| startTerm).getLsbD 0 = true := by
  have start : startTerm.getLsbD 0 = true := rfl
  rw [BitVec.getLsbD_or, start, Bool.or_true]

theorem serveSetNoticeMask_serves (payload : List Byte) (s : State) :
    s.Serves .setNoticeMask (serveSetNoticeMask payload s).1 := by
  unfold serveSetNoticeMask
  split
  · split_ifs
    · exact .nothing _
    · exact .noticeMask (startTerm_kept _)
  · exact .nothing _

theorem serveAckNotices_serves (payload : List Byte) (s : State) : s.Serves .ackNotices (serveAckNotices payload s).1 := by
  unfold serveAckNotices
  split
  · split_ifs with sent
    · exact .ackNotices sent
    · exact .nothing _
  · exact .nothing _

theorem serveSoftHold_serves (payload : List Byte) (s : State) : s.Serves .softHold (serveSoftHold payload s).1 := by
  unfold serveSoftHold
  split
  · split
    · exact .softHold _ _
    · exact .nothing _
  · exact .nothing _

theorem State.commitAnswer_fst (s : State) (p : Profile) (persist : Bool) :
    (s.commitAnswer p persist).1 = if persist then (s.commit p).startPersist else s.commit p := by
  cases persist <;> rfl

theorem serveCommit_serves (payload : List Byte) (s : State) : s.Serves .commit (serveCommit payload s).1 := by
  unfold serveCommit
  split
  · split
    · exact .nothing _
    · exact .nothing _
    · rename_i persist p _ staged
      split_ifs with busy last
      · exact .nothing _
      · exact .nothing _
      · split
        · exact .nothing _
        · rename_i passes
          rw [State.commitAnswer_fst]
          split_ifs with asked
          · exact .commitPersist staged last passes (by simpa [asked] using busy)
          · exact .commit staged last passes
  · exact .nothing _

theorem serveRevert_serves (s : State) : s.Serves .revert (serveRevert s).1 := by
  unfold serveRevert
  split_ifs with opened runs busy
  · exact .nothing _
  · exact .nothing _
  · exact .nothing _
  · split
    · exact .nothing _
    · rename_i slot newest
      have still : ∀ n, s.isRunning n = false := by simpa [mem_allChans] using runs
      have left : s.Serves .revert (s.install (s.nv.image slot)) :=
        .revert (by simpa using opened) still (by simpa using busy) newest
      dsimp only
      exact left

/-- R174 step 7: every request's owner leaves one of these states. -/
theorem ownerServes_serves (r : RequestName) (payload : List Byte) (s : State) :
    s.Serves r (ownerServes r payload s).1 := by
  cases r
  case hello => exact .hello
  case bye => exact .bye
  case setLevel => exact serveSetLevel_serves payload s
  case setNoticeMask => exact serveSetNoticeMask_serves payload s
  case ackNotices => exact serveAckNotices_serves payload s
  case resetPart =>
    simp only [ownerServes, serveResetPart]
    split_ifs with busy
    · exact .nothing _
    · exact .resetPart (by simpa using busy)
  case enable => exact serveMask_serves .enable payload
  case disable => exact serveMask_serves .disable payload
  case clear => exact serveMask_serves .clear payload
  case softHold => exact serveSoftHold_serves payload s
  case openEdit =>
    simp only [ownerServes, serveOpenEdit]
    split_ifs with opened
    · exact .nothing _
    · exact .openEdit (by simpa using opened)
  case abandonEdit =>
    simp only [ownerServes, serveAbandonEdit]
    split_ifs
    · exact .abandonEdit
    · exact .nothing _
  case putCurve | putChannel | putTrip | putScanList | putWindow | putSupply | putAccessCode | putLabel =>
    exact servePut_serves (by decide) payload s
  case commit => exact serveCommit_serves payload s
  case persist =>
    simp only [ownerServes, servePersist]
    split_ifs with busy
    · exact .nothing _
    · exact .persist (by simpa using busy)
  case revert => exact serveRevert_serves s
  case clearLog => exact .clearLog
  case identify | readScan | storeStatus => exact .nothing _
  case channelStatus | readPoints | readLog | getProfile | evalCurve =>
    simp only [ownerServes, serveChannelStatus, serveReadPoints, serveReadLog, serveGetProfile, serveEvalCurve]
    repeat' split
    all_goals exact .nothing _

/-! ## What every owner leaves alone -/

@[simp] theorem State.closeEdit_startup (s : State) (c : EditCause) : (s.closeEdit c).startup = s.startup := by
  unfold State.closeEdit
  split <;> rfl

@[simp] theorem State.closeEdit_pending (s : State) (c : EditCause) : (s.closeEdit c).pending = s.pending := by
  unfold State.closeEdit
  split <;> rfl

@[simp] theorem State.closeEdit_pins (s : State) (c : EditCause) : (s.closeEdit c).pins = s.pins := by
  unfold State.closeEdit
  split <;> rfl

@[simp] theorem State.closeEdit_link (s : State) (c : EditCause) : (s.closeEdit c).link = s.link := by
  unfold State.closeEdit
  split <;> rfl

theorem enableChan_reports (s : State) (n : Chan) : s.Reports (enableChan s n).1 := (enableChan_hasEffect.moves s n).reports
theorem disableChan_reports (s : State) (n : Chan) : s.Reports (disableChan s n).1 :=
  (disableChan_hasEffect.moves s n).reports
theorem clearChan_reports (s : State) (n : Chan) : s.Reports (clearChan s n).1 := (clearChan_hasEffect.moves s n).reports
theorem softHoldChan_reports (on : Bool) (s : State) (n : Chan) : s.Reports (softHoldChan on s n).1 :=
  ((softHoldChan_hasEffect on).moves s n).reports

/-- The request queue, the frame on the line, the receiver and its timers are the link's own: no owner touches them. -/
structure Link.SameLine (l m : Link) : Prop where
  phase : m.phase = l.phase
  collected : m.collected = l.collected
  gap : m.gap = l.gap
  lowLine : m.lowLine = l.lowLine
  queue : m.queue = l.queue
  tx : m.tx = l.tx

/-- What no owner touches. -/
structure State.SameFrame (s t : State) : Prop where
  startup : t.startup = s.startup
  pins : t.pins = s.pins
  pending : t.pending = s.pending
  line : s.link.SameLine t.link

theorem State.Reports.sameFrame {s t : State} (h : s.Reports t) : s.SameFrame t where
  startup := h.startup
  pins := h.pins
  pending := h.pending
  line := by rw [h.link]; exact ⟨rfl, rfl, rfl, rfl, rfl, rfl⟩

theorem State.SameFrame.of_link {s t : State} (startup : t.startup = s.startup) (pins : t.pins = s.pins)
    (pending : t.pending = s.pending) (link : t.link = s.link) : s.SameFrame t :=
  ⟨startup, pins, pending, by rw [link]; exact ⟨rfl, rfl, rfl, rfl, rfl, rfl⟩⟩

theorem State.SameFrame.trans {s t u : State} (h : s.SameFrame t) (k : t.SameFrame u) : s.SameFrame u where
  startup := k.startup.trans h.startup
  pins := k.pins.trans h.pins
  pending := k.pending.trans h.pending
  line := ⟨k.line.phase.trans h.line.phase, k.line.collected.trans h.line.collected, k.line.gap.trans h.line.gap,
    k.line.lowLine.trans h.line.lowLine, k.line.queue.trans h.line.queue, k.line.tx.trans h.line.tx⟩

theorem State.withStore_sameFrame (s : State) (x : ProfileStore) : s.SameFrame (s.withStore x) := .of_link rfl rfl rfl rfl

theorem State.withNv_sameFrame (s : State) (x : NvStore) : s.SameFrame (s.withNv x) := .of_link rfl rfl rfl rfl

theorem State.install_sameFrame (s : State) (p : Profile) : s.SameFrame (s.install p) :=
  (s.withStore_sameFrame _).trans (s.install_reports p).sameFrame

theorem State.hello_sameFrame (s : State) : s.SameFrame s.hello := by
  unfold State.hello
  split
  · exact ⟨by simp [State.setSession, State.unsendNotices, State.emptyCache], by
      simp [State.setSession, State.unsendNotices, State.emptyCache], by
      simp [State.setSession, State.unsendNotices, State.emptyCache], by
      constructor <;> simp [State.setSession, State.unsendNotices, State.emptyCache]⟩
  · exact ⟨rfl, rfl, rfl, ⟨rfl, rfl, rfl, rfl, rfl, rfl⟩⟩

theorem State.grantLevel_sameFrame (s : State) (l : Level) : s.SameFrame (s.grantLevel l) := by
  unfold State.grantLevel
  dsimp only
  split
  · exact ⟨rfl, rfl, rfl, ⟨rfl, rfl, rfl, rfl, rfl, rfl⟩⟩
  · exact ⟨by simp, by simp, by simp, by constructor <;> simp⟩

theorem State.commit_sameFrame (s : State) (p : Profile) : s.SameFrame (s.commit p) :=
  (s.withStore_sameFrame _).trans (State.install_sameFrame _ _)

theorem State.Serves.sameFrame {s t : State} {r : RequestName} (h : s.Serves r t) : s.SameFrame t := by
  cases h with
  | hello => exact s.hello_sameFrame
  | bye => exact ⟨by simp [State.setSession, State.unsendNotices], by simp [State.setSession, State.unsendNotices],
      by simp [State.setSession, State.unsendNotices], by constructor <;> simp [State.setSession, State.unsendNotices]⟩
  | grants => exact s.grantLevel_sameFrame _
  | enable mask => exact (overMask_reports s enableChan_reports mask).sameFrame
  | disable mask => exact (overMask_reports s disableChan_reports mask).sameFrame
  | clear mask => exact (overMask_reports s clearChan_reports mask).sameFrame
  | softHold mask on => exact (overMask_reports s (softHoldChan_reports on) mask).sameFrame
  | commit => exact s.commit_sameFrame _
  | commitPersist => exact (s.commit_sameFrame _).trans (State.withNv_sameFrame _ _)
  | revert => exact s.install_sameFrame _
  | nothing | codeRight | codeWrong | noticeMask | ackNotices | resetPart | openEdit | abandonEdit | put | persist |
    clearLog => exact ⟨rfl, rfl, rfl, ⟨rfl, rfl, rfl, rfl, rfl, rfl⟩⟩

/-! ## The works -/

/-- The works that begin or end a reset, of the link (R172) or of the part (R188 to R191). -/
inductive State.Resets (s : State) : State → Prop
  | link {left : Nat} (hears : s.startup.phase ≠ .resetHeld) : s.Resets (s.elapse left).linkReset
  | request (held : s.startup.phase ≠ .resetHeld ∨ s.link.tx ≠ .idle) : s.Resets s.requestReset
  | supply : s.Resets s.supplyFails
  | pin : s.Resets s.resetPinTaken
  | released (held : s.startup.phase = .resetHeld) : s.Resets s.resetReleased
  | recallEnds (recalling : s.startup.phase = .recalling) : s.Resets (s.elapse s.toRecallEnd).recallEnds

/-- What a block may do in one command, on the state that the link hands it. -/
inductive State.Works : State → State → Prop
  | nothing (s : State) : s.Works s
  | elapses (s : State) (d : Nat) : s.Works (s.elapse d)
  | serves {s t : State} {r : RequestName} (running : s.startup.phase = .running)
      (session : s.link.opened = true ∨ r.servedClosed = true) (level : r.level.code ≤ s.link.level.code)
      (served : s.Serves r t) : s.Works t
  | startsAck {s : State} (sent : s.notices.queue.any (·.sent) = true) :
      s.Works (s.withNotices { s.notices with ack := .running Config.ackPeriod })
  | ackExpires {s : State} {left : Nat} (timer : s.notices.ack = .running left) : s.Works (s.elapse left).ackExpires
  | lockoutExpires {s : State} {left : Nat} (timer : s.link.lockout = .running left) :
      s.Works (s.elapse left).lockoutExpires
  | editIdleExpires {s : State} {left : Nat} (timer : s.store.idle = .running left) :
      s.Works (s.elapse left).editIdleExpires
  | holdPin (s : State) (n : Chan) (asserted : Bool) : s.Works (s.holdPinTaken n asserted)
  | blankingExpires {s : State} {n : Chan} {left : Nat} (state : (s.channels.get n).state = .ramping)
      (timer : (s.channels.get n).blanking = .running left) : s.Works ((s.elapse left).blankingExpires n)
  | stableExpires {s : State} {n : Chan} {left : Nat} (state : (s.channels.get n).state = .active)
      (timer : (s.channels.get n).stable = .running left) : s.Works ((s.elapse left).stableExpires n)
  | retryExpires {s : State} {n : Chan} {left : Nat} (state : (s.channels.get n).state = .tripped)
      (timer : (s.channels.get n).retry = .running left) : s.Works ((s.elapse left).retryExpires n)
  | rampTick {s : State} {n : Chan} {left : Nat} (timer : (s.drive.get n).tick = .running left) :
      s.Works ((s.elapse left).rampTick n)
  | takesConfirmation {s : State} {n : Chan} {kind : TripKind} (running : s.startup.phase = .running)
      (waiting : (s.channels.get n).confirmations.has kind = true) : s.Works (s.takeConfirmation n kind)
  | scanStep {s : State} {sense : BitVec 10} (scanning : s.scanner.scanning = true) : s.Works (s.scanStep sense)
  | conversionCompletes {s : State} {left : Nat} {value : Int} (running : s.seq.running = true)
      (timer : s.seq.timer = .running left) : s.Works ((s.elapse left).conversionCompletes value)
  | pageCompletes {s : State} {o : PersistOp} {matched : Bool} (op : s.nv.op = some o) :
      s.Works ((s.elapse o.write.remaining).pageCompletes o matched)

/-- R174: serving an entry leaves the phase and the uptime. -/
theorem serveEntry_startup (e : Entry) (s : State) : (serveEntry e s).1.startup = s.startup := by
  unfold serveEntry
  cases e.mark with
  | overrun => rfl
  | execute =>
    simp only [serveExecute]
    split
    · rfl
    · split_ifs
      · rfl
      · simp only [serveRunning]
        split
        · rfl
        · simp only [serveKnown]
          split_ifs
          · rfl
          · rfl
          · rfl
          · exact (ownerServes_serves _ _ s).sameFrame.startup

/-- R174: serving an entry is nothing, or an owner's work while the part runs. -/
theorem serveEntry_works (e : Entry) (s : State) :
    s.Works (serveEntry e s).1 ∧ (s.startup.phase ≠ .running → (serveEntry e s).1 = s) := by
  unfold serveEntry
  cases e.mark with
  | overrun => exact ⟨.nothing s, fun _ => rfl⟩
  | execute =>
    simp only [serveExecute]
    cases s.link.replayFor e.code e.tag with
    | some c => exact ⟨.nothing s, fun _ => rfl⟩
    | none =>
      by_cases running : s.startup.phase = .running
      · refine ⟨?_, fun h => absurd running h⟩
        simp only [running, ne_eq, not_true_eq_false, if_false, serveRunning]
        cases requestOfCode e.code with
        | none => exact .nothing s
        | some r =>
          simp only [serveKnown]
          split_ifs with closed above long
          · exact .nothing s
          · exact .nothing s
          · exact .nothing s
          · refine .serves running ?_ (by omega) (ownerServes_serves r e.payload s)
            cases ho : s.link.opened <;> simp_all
      · simp only [ne_eq, running, not_false_eq_true, if_true]
        exact ⟨.nothing s, fun _ => trivial⟩

/-- R173: the service of the head is its entry's work, and then the link's. -/
theorem State.serveHead_works (s : State) : ∃ u, s.Works u ∧ u.LineOnly s.serveHead := by
  unfold State.serveHead
  cases hq : s.link.queue with
  | nil => exact ⟨s, .nothing s, .refl s⟩
  | cons e rest =>
    obtain ⟨work, idle⟩ := serveEntry_works e s
    dsimp only
    split_ifs
    · exact ⟨s, .nothing s, .refl s⟩
    · refine ⟨_, work, State.withQueue_lineOnly fun held => ?_⟩
      by_cases running : s.startup.phase = .running
      · rw [serveEntry_startup, running] at held
        cases held
      · rw [idle running, hq]
        exact List.cons_ne_nil e rest

/-! ## Every command -/

/-- A command as the link's part, one work, and the link's part again. -/
def State.Carries (s t : State) : Prop := ∃ v u, s.LineOnly v ∧ (v.Works u ∨ v.Resets u) ∧ u.LineOnly t

theorem State.Works.carries {s t : State} (h : s.Works t) : s.Carries t := ⟨s, t, .refl s, .inl h, .refl t⟩

theorem State.Resets.carries {s t : State} (h : s.Resets t) : s.Carries t := ⟨s, t, .refl s, .inr h, .refl t⟩

theorem State.LineOnly.carries {s t : State} (h : s.LineOnly t) : s.Carries t := ⟨s, s, .refl s, .inl (.nothing s), h⟩

theorem State.Carries.refl (s : State) : s.Carries s := (State.LineOnly.refl s).carries

theorem State.Carries.before {s v t : State} (k : v.Carries t) (h : s.LineOnly v) : s.Carries t := by
  obtain ⟨w, u, first, work, last⟩ := k
  exact ⟨w, u, h.trans first, work, last⟩

theorem State.Carries.after {s u t : State} (k : s.Carries u) (h : u.LineOnly t) : s.Carries t := by
  obtain ⟨v, w, first, work, last⟩ := k
  exact ⟨v, w, first, work, last.trans h⟩

theorem State.Carries.settle {s t : State} (k : s.Carries t) : s.Carries t.settle := k.after t.settle_lineOnly

theorem State.serveHead_carries (s : State) : s.Carries s.serveHead := by
  obtain ⟨u, work, last⟩ := s.serveHead_works
  exact ⟨s, u, .refl s, .inl work, last⟩

theorem State.takesBytes_phase {s : State} (h : s.takesBytes = true) : s.startup.phase ≠ .resetHeld := by
  simp only [State.takesBytes, Bool.and_eq_true, decide_eq_true_eq] at h
  exact h.1

theorem State.handOn_carries {s : State} (hears : s.startup.phase ≠ .resetHeld) (code tag : Byte) (payload : List Byte) :
    s.Carries (s.handOn code tag payload) :=
  ((State.serveHead_carries _).before (State.withQueue_lineOnly fun held => absurd held hears)).settle

theorem State.frameDone_carries {s : State} (hears : s.startup.phase ≠ .resetHeld) (bytes : List Byte) :
    s.Carries (s.frameDone bytes) := by
  unfold State.frameDone
  split_ifs
  · exact .refl s
  · split
    · split_ifs
      · exact State.handOn_carries hears _ _ _
      · exact .refl s
    · exact .refl s

theorem State.receiveRequest_carries (s : State) (code tag : Byte) (payload : List Byte) :
    s.Carries (s.receiveRequest code tag payload) := by
  unfold State.receiveRequest
  split_ifs with hears
  · refine .before ?_ (s.rxdHigh_lineOnly.trans s.rxdHigh.hunt_lineOnly)
    have phase := State.takesBytes_phase hears
    exact State.handOn_carries (s := s.rxdHigh.hunt) phase code tag payload
  · exact .refl s

theorem State.collectByte_carries {s : State} (hears : s.startup.phase ≠ .resetHeld) (b : Byte) :
    s.Carries (s.collectByte b) := by
  unfold State.collectByte
  split_ifs
  · exact .before (State.frameDone_carries (s := s.hunt) hears _) s.hunt_lineOnly
  · exact (s.lengthByte_lineOnly b).carries
  · exact (s.collecting_lineOnly _).carries

theorem State.byteReceived_carries (s : State) (b : Byte) : s.Carries (s.byteReceived b) := by
  unfold State.byteReceived
  split_ifs with hears
  · split
    · exact (s.rxdHigh_lineOnly.trans (s.rxdHigh.huntByte_lineOnly b)).carries
    · exact .before (State.collectByte_carries (s := s.rxdHigh) (State.takesBytes_phase hears) b) s.rxdHigh_lineOnly
    · exact .refl s
  · exact .refl s

theorem State.lastByteReceived_carries (s : State) (b : Byte) : s.Carries (s.lastByteReceived b) := by
  unfold State.lastByteReceived
  split_ifs with h
  · have hears := State.takesBytes_phase (Bool.and_eq_true_iff.mp h).1
    exact .before (State.frameDone_carries (s := s.rxdHigh.hunt) hears _) (s.rxdHigh_lineOnly.trans s.rxdHigh.hunt_lineOnly)
  · exact .refl s

theorem State.framingError_lineOnly (s : State) : s.LineOnly s.framingError := by
  unfold State.framingError
  split_ifs
  · exact s.hunt_lineOnly.trans s.hunt.rxdFalls_lineOnly
  · exact s.rxdFalls_lineOnly
  · exact .refl s

theorem State.breakEnd_lineOnly (s : State) : s.LineOnly s.breakEnd := by
  unfold State.breakEnd
  dsimp only
  split_ifs
  · exact s.rxdHigh_lineOnly.trans s.rxdHigh.hunt_lineOnly
  · exact s.rxdHigh_lineOnly

@[simp] theorem StartUp.elapse_phase (u : StartUp) (d : Nat) : (u.elapse d).phase = u.phase := by
  unfold StartUp.elapse
  split <;> rfl

@[simp] theorem StartUp.elapse_cause (u : StartUp) (d : Nat) : (u.elapse d).cause = u.cause := by
  unfold StartUp.elapse
  split <;> rfl

/-- R172, R191: a break resets the link, or begins the full reset that a removed RESET_PART had pending; that reset finds
nothing of the broken link, and the slot pages as they were. -/
theorem State.breakTaken_requestReset (s : State) (d : Nat) (drops : (s.elapse d).link.dropsReset = true) :
    (s.elapse d).breakTaken = (s.withPins { s.pins with rxdLow := true }).requestReset := by
  have pages : (s.elapse d).linkReset.nv = (s.elapse d).nv := by
    unfold State.linkReset State.closeEdit
    split <;> rfl
  have pending : (s.elapse d).linkReset.pending = s.pending := by
    unfold State.linkReset State.closeEdit
    split <;> rfl
  simp only [State.breakTaken, drops, if_true, State.requestReset, State.fullReset, State.withPins_nv, State.withLink_nv,
    State.withPins_pending, State.withLink_pending, State.withPins_pins, pages, pending, State.elapse_pins, State.elapse_nv]

/-- R171: the receiver enters BREAK with RXD low. -/
theorem State.inBreak_lineOnly {s : State} (hears : s.startup.phase ≠ .resetHeld) :
    s.LineOnly ((s.withLink { s.link with phase := .inBreak, lowLine := .stopped }).withPins
      { s.pins with rxdLow := true }) :=
  { State.LineOnly.refl s with still := fun held => absurd held hears }

theorem State.lineBreak_carries (s : State) : s.Carries s.lineBreak := by
  unfold State.lineBreak
  split_ifs with held broken
  · exact (s.rxdLevel_lineOnly true).carries
  · exact .refl s
  · cases drops : (s.elapse s.link.toBreak).link.dropsReset with
    | true =>
      rw [State.breakTaken_requestReset s _ drops]
      have work := State.Resets.request (s := s.withPins { s.pins with rxdLow := true }) (.inl held)
      exact work.carries.before (s.rxdLevel_lineOnly true)
    | false =>
      refine (State.Resets.link (left := s.link.toBreak) held).carries.after ?_
      have phase : (s.elapse s.link.toBreak).linkReset.startup.phase = s.startup.phase := by
        simp [State.linkReset, State.unsendNotices]
      have pins : (s.elapse s.link.toBreak).linkReset.pins = s.pins := by simp [State.linkReset, State.unsendNotices]
      unfold State.breakTaken
      simp only [drops, Bool.false_eq_true, if_false, State.elapse_pins, ← pins]
      exact State.inBreak_lineOnly (phase ▸ held)

theorem execReplyFrameEnd_carries (s : State) : ∃ t, execReplyFrameEnd s = .next t ∧ s.Carries t := by
  unfold execReplyFrameEnd
  split
  · rename_i r held sends
    have busy : s.link.tx ≠ .idle := by simp [sends]
    split_ifs
    · exact ⟨_, rfl, (State.Resets.request (.inr busy)).carries⟩
    · refine ⟨_, rfl, ?_⟩
      unfold State.replyEnds
      split_ifs
      · have freed : s.LineOnly (s.txIdle.withQueue s.link.queue.tail) :=
          .withLink ⟨rfl, rfl⟩ ⟨rfl, rfl⟩ rfl fun _ _ _ idle => absurd idle busy
        exact ((State.serveHead_carries _).before freed).settle
      · exact (State.txIdle_lineOnly busy).carries.settle
  · exact ⟨s, rfl, .refl s⟩
  · exact ⟨s, rfl, .refl s⟩

theorem execNoticeFrameEnd_carries (s : State) : ∃ t, execNoticeFrameEnd s = .next t ∧ s.Carries t := by
  unfold execNoticeFrameEnd
  split
  · rename_i n sends
    have busy : s.link.tx ≠ .idle := by simp [sends]
    refine ⟨_, rfl, ?_⟩
    unfold State.noticeEnds
    dsimp only
    split_ifs with sent
    · exact ((State.Works.startsAck sent).carries.after (State.txIdle_lineOnly busy)).settle
    · exact (State.txIdle_lineOnly busy).carries.settle
  · exact ⟨s, rfl, .refl s⟩
  · exact ⟨s, rfl, .refl s⟩

/-- What a command means on a state: the arrival of a request or of a character, an end of a frame, or a work of a block, which
the transmitter's choice may follow. -/
inductive State.Meaning (s : State) : Result → Prop
  | stays : s.Meaning (.next s)
  | request (code tag : Byte) (payload : List Byte) : s.Meaning (.next (s.receiveRequest code tag payload))
  | byte (b : Byte) : s.Meaning (.next (s.byteReceived b))
  | lastByte (b : Byte) : s.Meaning (.next (s.lastByteReceived b))
  | framingError : s.Meaning (.next s.framingError)
  | gapExpires (left : Nat) : s.Meaning (.next (s.elapse left).gapExpires)
  | lineBreak : s.Meaning (.next s.lineBreak)
  | breakEnd : s.Meaning (.next s.breakEnd)
  | replyEnd : s.Meaning (execReplyFrameEnd s)
  | noticeEnd : s.Meaning (execNoticeFrameEnd s)
  | works {t : State} (work : s.Works t) : s.Meaning (.next t)
  | settles {t : State} (work : s.Works t) : s.Meaning (.next t.settle)
  | supplyFails : s.Meaning (.next s.supplyFails)
  | resetPin : s.Meaning (.next s.resetPinTaken)
  | released (held : s.startup.phase = .resetHeld) : s.Meaning (.next s.resetReleased)
  | recallEnds (recalling : s.startup.phase = .recalling) :
      s.Meaning (.next (s.elapse s.toRecallEnd).recallEnds.settle)

/-- Section 5.5: every command has one of these meanings in every state. -/
theorem exec_meaning (i : Instr) (s : State) : s.Meaning (exec i s) := by
  cases i
  case frameReceived => exact .lastByte _
  case framingError => exact .framingError
  case lineBreak => exact .lineBreak
  case breakEnd => exact .breakEnd
  case byteReceived => exact .byte _
  case replyFrameEnd => exact .replyEnd
  case noticeFrameEnd => exact .noticeEnd
  case power => exact .supplyFails
  case resetPinAsserted => exact .resetPin
  case gapTimerExpiry =>
    simp only [exec, execGapTimerExpiry]
    split
    · exact .gapExpires _
    · exact .stays
  case acknowledgementTimerExpiry =>
    simp only [exec, execAcknowledgementTimerExpiry]
    split
    · rename_i timer
      exact .settles (.ackExpires timer)
    · exact .stays
  case lockoutTimerExpiry =>
    simp only [exec, execLockoutTimerExpiry]
    split
    · rename_i timer
      exact .works (.lockoutExpires timer)
    · exact .stays
  case editIdleTimerExpiry =>
    simp only [exec, execEditIdleTimerExpiry]
    split
    · rename_i timer
      exact .settles (.editIdleExpires timer)
    · exact .stays
  case holdPinChange n asserted =>
    simp only [exec, execHoldPinChange]
    split_ifs
    · exact .stays
    · exact .settles (.holdPin s n asserted)
  case blankingTimerExpiry =>
    simp only [exec, execBlankingTimerExpiry]
    split
    · rename_i state timer
      exact .settles (.blankingExpires state timer)
    · exact .stays
  case stableTimerExpiry =>
    simp only [exec, execStableTimerExpiry]
    split
    · rename_i state timer
      exact .works (.stableExpires state timer)
    · exact .stays
  case retryTimerExpiry =>
    simp only [exec, execRetryTimerExpiry]
    split
    · rename_i state timer
      exact .settles (.retryExpires state timer)
    · exact .stays
  case rampTick =>
    simp only [exec, execRampTick]
    split
    · rename_i timer
      exact .settles (.rampTick timer)
    · exact .stays
  case confirmedTrip =>
    simp only [exec, execConfirmedTrip]
    split_ifs with waits
    · exact .settles (.takesConfirmation waits.1 waits.2)
    · exact .stays
  case scanStep =>
    simp only [exec, execScanStep]
    split_ifs with scanning
    · exact .works (.scanStep scanning)
    · exact .stays
  case conversionCompletion =>
    simp only [exec, execConversionCompletion]
    split
    · rename_i running timer
      exact .settles (.conversionCompletes running timer)
    · exact .stays
  case pageWriteCompletion =>
    simp only [exec, execPageWriteCompletion]
    split
    · rename_i op
      exact .settles (.pageCompletes op)
    · exact .stays
  case resetHeldEnd =>
    simp only [exec, execResetHeldEnd]
    split_ifs with held
    · exact .released held
    · exact .stays
  case endOfRecall =>
    simp only [exec, execEndOfRecall]
    split_ifs with recalling
    · exact .recallEnds recalling
    · exact .stays
  all_goals exact .request _ _ _

/-- Every command is carried out in every state, as the link's part, a work or a reset, and the link's part again. -/
theorem exec_carries (i : Instr) (s : State) : ∃ t, exec i s = .next t ∧ s.Carries t := by
  generalize outcome : exec i s = result
  cases outcome ▸ exec_meaning i s with
  | stays => exact ⟨s, rfl, .refl s⟩
  | request => exact ⟨_, rfl, s.receiveRequest_carries _ _ _⟩
  | byte => exact ⟨_, rfl, s.byteReceived_carries _⟩
  | lastByte => exact ⟨_, rfl, s.lastByteReceived_carries _⟩
  | framingError => exact ⟨_, rfl, s.framingError_lineOnly.carries⟩
  | gapExpires left => exact ⟨_, rfl, (State.Works.elapses s left).carries.after (State.hunt_lineOnly _)⟩
  | lineBreak => exact ⟨_, rfl, s.lineBreak_carries⟩
  | breakEnd => exact ⟨_, rfl, s.breakEnd_lineOnly.carries⟩
  | replyEnd => exact execReplyFrameEnd_carries s
  | noticeEnd => exact execNoticeFrameEnd_carries s
  | works work => exact ⟨_, rfl, work.carries⟩
  | settles work => exact ⟨_, rfl, work.carries.settle⟩
  | supplyFails => exact ⟨_, rfl, State.Resets.supply.carries⟩
  | resetPin => exact ⟨_, rfl, State.Resets.pin.carries⟩
  | released held => exact ⟨_, rfl, (State.Resets.released held).carries⟩
  | recallEnds recalling => exact ⟨_, rfl, (State.Resets.recallEnds recalling).carries.settle⟩

/-- What the link, every work and every reset keep, every step keeps. -/
theorem step_keeps {P : State → Prop} (queue : ∀ s rest, P s → P { s with pending := rest })
    (lines : ∀ s t, s.LineOnly t → P s → P t) (works : ∀ s t, s.Works t → P s → P t)
    (resets : ∀ s t, s.Resets t → P s → P t) {s t : State} (h : P s) (stepped : step s = .next t) : P t := by
  unfold step at stepped
  split at stepped
  · obtain rfl := Host.Outcome.next.inj stepped
    exact works _ _ (.elapses s 1) h
  · rename_i c rest _
    obtain ⟨u, carried, v, w, first, work, last⟩ := exec_carries c { s with pending := rest }
    obtain rfl := Host.Outcome.next.inj (carried.symm.trans stepped)
    have begun := lines _ _ first (queue s rest h)
    exact lines _ _ last (work.elim (works _ _ · begun) (resets _ _ · begun))

end Sys2Proof.Machine

/-! The Notice Queue (R155 to R161): every operation on it keeps `NoticeQueue.Ok`. -/

namespace Sys2Proof.Machine

/-! ## Timers -/

@[simp] theorem Timer.elapse_eq_stopped {t : Timer} {d : Nat} : t.elapse d = .stopped ↔ t = .stopped := by
  cases t <;> simp [Timer.elapse]

@[simp] theorem BlankTimer.elapse_eq_stopped {t : BlankTimer} {d : Nat} : t.elapse d = .stopped ↔ t = .stopped := by
  cases t <;> simp [BlankTimer.elapse]

/-! ## What the operations do to numbers and markings -/

/-- What `NoticeQueue.Ok` asks of the notices themselves. -/
structure NoticesOk (queue : List Notice) (nextSeq : BitVec 8) : Prop where
  bounded : queue.length ≤ 16
  consecutive : queue.IsChain fun a b => b.seq = a.seq + 1
  newest : ∀ n, queue.getLast? = some n → nextSeq = n.seq + 1
  window : (queue.filter (·.sent)).length ≤ 4
  oldestSent : queue.IsChain fun a b => b.sent = true → a.sent = true
  counts : ∀ n ∈ queue, n.lostAfter ≤ 255

theorem NoticeQueue.Ok.notices {q : NoticeQueue} (h : q.Ok) : NoticesOk q.queue q.nextSeq :=
  ⟨h.bounded, h.consecutive, h.newest, h.window, h.oldestSent, h.counts⟩

theorem NoticesOk.ok {q : NoticeQueue} (h : NoticesOk q.queue q.nextSeq) (startTerm : q.mask.getLsbD 0 = true)
    (timer : q.ack ≠ .stopped → q.queue.any (·.sent) = true) : q.Ok :=
  ⟨h.bounded, h.consecutive, h.newest, h.window, h.oldestSent, h.counts, startTerm, timer⟩

/-- A queue whose notices keep their numbers and their markings, in order. -/
theorem NoticesOk.congr {q r : List Notice} {next : BitVec 8} (h : NoticesOk q next)
    (same : r.map (fun n => (n.seq, n.sent)) = q.map fun n => (n.seq, n.sent)) (counts : ∀ n ∈ r, n.lostAfter ≤ 255) :
    NoticesOk r next := by
  have seqs : r.map (·.seq) = q.map (·.seq) := by
    simpa [Function.comp_def] using congrArg (List.map Prod.fst) same
  have marks : r.map (·.sent) = q.map (·.sent) := by
    simpa [Function.comp_def] using congrArg (List.map Prod.snd) same
  refine ⟨?_, ?_, ?_, ?_, ?_, counts⟩
  · have := congrArg List.length same
    simp only [List.length_map] at this
    exact this ▸ h.bounded
  · have chained := h.consecutive
    rw [← List.isChain_map (R := fun a b => b = a + 1) (fun n : Notice => n.seq), ← seqs, List.isChain_map] at chained
    exact chained
  · intro n last
    have : (q.map (·.seq)).getLast? = some n.seq := by rw [← seqs, List.getLast?_map, last]; rfl
    rw [List.getLast?_map] at this
    obtain ⟨m, lastm, rfl'⟩ := Option.map_eq_some_iff.mp this
    rw [h.newest m lastm, rfl']
  · have sentCount : ∀ l : List Notice, (l.filter (·.sent)).length = (l.map (·.sent)).countP id := fun l => by
      rw [List.countP_map, List.countP_eq_length_filter]
      rfl
    rw [sentCount, marks, ← sentCount]
    exact h.window
  · have chained := h.oldestSent
    rw [← List.isChain_map (R := fun a b => b = true → a = true) (fun n : Notice => n.sent), ← marks, List.isChain_map]
      at chained
    exact chained

theorem countLost_marks (queue : List Notice) :
    (countLost queue).map (fun n => (n.seq, n.sent)) = queue.map fun n => (n.seq, n.sent) := by
  induction queue using countLost.induct with
  | case1 => rfl
  | case2 n => rfl
  | case3 n rest more ih =>
    rw [countLost]
    · simp only [List.map_cons, ih]
    · exact more

theorem countLost_counts {queue : List Notice} (h : ∀ n ∈ queue, n.lostAfter ≤ 255) :
    ∀ n ∈ countLost queue, n.lostAfter ≤ 255 := by
  induction queue using countLost.induct with
  | case1 => exact h
  | case2 n =>
    simp only [countLost, List.mem_singleton, forall_eq, saturate255]
    split <;> omega
  | case3 n rest more ih =>
    rw [countLost]
    · simp only [List.mem_cons, forall_eq_or_imp] at h ⊢
      exact ⟨h.1, ih h.2⟩
    · exact more

theorem any_sent_of_marks {q r : List Notice}
    (same : r.map (fun n => (n.seq, n.sent)) = q.map fun n => (n.seq, n.sent)) :
    r.any (·.sent) = q.any (·.sent) := by
  have marks : r.map (·.sent) = q.map (·.sent) := by
    simpa [Function.comp_def] using congrArg (List.map Prod.snd) same
  have anyMarks : ∀ l : List Notice, l.any (·.sent) = (l.map (·.sent)).any id := fun l => by simp [List.any_map]
  rw [anyMarks, marks, ← anyMarks]

/-- R156: a notice joins as the newest. -/
theorem NoticesOk.snoc {q : List Notice} {next : BitVec 8} (h : NoticesOk q next) (room : q.length < 16)
    (body : NoticeBody) : NoticesOk (q ++ [⟨body, next, 0, false⟩]) (next + 1) where
  bounded := by simp; omega
  consecutive := by
    refine List.isChain_append.mpr ⟨h.consecutive, List.isChain_singleton _, fun a ha b hb => ?_⟩
    obtain rfl : _ = b := by simpa using hb
    exact h.newest a ha
  newest := fun n last => by
    obtain rfl : _ = n := by simpa using last
    rfl
  window := by simpa using h.window
  oldestSent := by
    refine List.isChain_append.mpr ⟨h.oldestSent, List.isChain_singleton _, fun a _ b hb => ?_⟩
    obtain rfl : _ = b := by simpa using hb
    exact fun sent => Bool.noConfusion sent
  counts := fun n hn => by
    rcases List.mem_append.mp hn with old | new
    · exact h.counts n old
    · obtain rfl : n = _ := by simpa using new
      exact Nat.zero_le _

/-- R156, R157: posting a notice. -/
theorem NoticeQueue.Ok.post {q : NoticeQueue} (h : q.Ok) (body : NoticeBody) : (q.post body).Ok := by
  rcases q.post_cases body with ⟨_, kept⟩ | ⟨_, _, dropped⟩ | ⟨_, room, queued⟩
  · rwa [kept]
  · rw [dropped]
    refine (h.notices.congr (countLost_marks q.queue) (countLost_counts h.counts)).ok h.startTerm fun runs => ?_
    exact (any_sent_of_marks (countLost_marks q.queue)).trans (h.timer runs)
  · rw [queued]
    refine (h.notices.snoc room body).ok h.startTerm fun runs => ?_
    rw [List.any_append, h.timer runs, Bool.true_or]

theorem NoticeQueue.Ok.postAll {q : NoticeQueue} (h : q.Ok) (bodies : List NoticeBody) : (q.postAll bodies).Ok := by
  induction bodies generalizing q with
  | nil => exact h
  | cons b rest ih => exact ih (h.post b)

/-- R162: every notice is UNSENT and the timer is stopped. -/
theorem NoticeQueue.Ok.unsend {q : NoticeQueue} (h : q.Ok) : q.unsend.Ok where
  bounded := by simpa [NoticeQueue.unsend] using h.bounded
  consecutive := by simpa [NoticeQueue.unsend, List.isChain_map] using h.consecutive
  newest := fun n last => by
    simp only [NoticeQueue.unsend, List.getLast?_map, Option.map_eq_some_iff] at last
    obtain ⟨m, lastm, rfl⟩ := last
    exact h.newest m lastm
  window := by simp [NoticeQueue.unsend, List.filter_map, Function.comp_def]
  oldestSent := by
    simp only [NoticeQueue.unsend, List.isChain_map]
    exact h.oldestSent.imp fun _ _ _ sent => sent
  counts := by simpa [NoticeQueue.unsend] using h.counts
  startTerm := h.startTerm
  timer := fun runs => absurd rfl runs

theorem markFirstUnsent_seqs (queue : List Notice) :
    (markFirstUnsent queue).map (fun n => (n.seq, n.lostAfter)) = queue.map fun n => (n.seq, n.lostAfter) := by
  induction queue with
  | nil => rfl
  | cons n rest ih =>
    unfold markFirstUnsent
    split
    · simp only [List.map_cons, ih]
    · rfl

theorem markFirstUnsent_oldestSent {queue : List Notice} (h : queue.IsChain fun a b => b.sent = true → a.sent = true) :
    (markFirstUnsent queue).IsChain fun a b => b.sent = true → a.sent = true := by
  induction queue with
  | nil => exact h
  | cons n rest ih =>
    obtain ⟨first, chained⟩ := List.isChain_cons.mp h
    unfold markFirstUnsent
    split
    · rename_i sent
      exact List.isChain_cons.mpr ⟨fun _ _ _ => sent, ih chained⟩
    · exact List.isChain_cons.mpr ⟨fun _ _ _ => rfl, chained⟩

theorem markFirstUnsent_window (queue : List Notice) :
    ((markFirstUnsent queue).filter (·.sent)).length ≤ (queue.filter (·.sent)).length + 1 := by
  induction queue with
  | nil => simp [markFirstUnsent]
  | cons n rest ih =>
    unfold markFirstUnsent
    split <;> simp_all

theorem markFirstUnsent_any {queue : List Notice} (h : queue.any (·.sent) = true) :
    (markFirstUnsent queue).any (·.sent) = true := by
  cases queue with
  | nil => exact h
  | cons n rest =>
    unfold markFirstUnsent
    split <;> simp_all

/-- R159: one more notice is marked SENT. -/
theorem NoticeQueue.Ok.marksOne {q r : NoticeQueue} (h : q.Ok) (marked : q.MarksOne r) : r.Ok := by
  obtain ⟨window, rfl⟩ := marked
  have seqs : (markFirstUnsent q.queue).map (·.seq) = q.queue.map (·.seq) := by
    simpa [Function.comp_def] using congrArg (List.map Prod.fst) (markFirstUnsent_seqs q.queue)
  have counts : (markFirstUnsent q.queue).map (·.lostAfter) = q.queue.map (·.lostAfter) := by
    simpa [Function.comp_def] using congrArg (List.map Prod.snd) (markFirstUnsent_seqs q.queue)
  have length := congrArg List.length seqs
  simp only [List.length_map] at length
  refine ⟨length ▸ h.bounded, ?_, fun n last => ?_, ?_, markFirstUnsent_oldestSent h.oldestSent, fun n hn => ?_, h.startTerm,
    fun runs => markFirstUnsent_any (h.timer runs)⟩
  · have chained := h.consecutive
    rw [← List.isChain_map (R := fun a b => b = a + 1) (fun n : Notice => n.seq), ← seqs, List.isChain_map] at chained
    exact chained
  · have : (q.queue.map (·.seq)).getLast? = some n.seq := by rw [← seqs, List.getLast?_map, last]; rfl
    rw [List.getLast?_map] at this
    obtain ⟨m, lastm, same⟩ := Option.map_eq_some_iff.mp this
    exact same ▸ h.newest m lastm
  · have := markFirstUnsent_window q.queue
    simp only [Config.noticeWindow] at window
    exact this.trans (by omega)
  · have : n.lostAfter ∈ q.queue.map (·.lostAfter) := counts ▸ List.mem_map_of_mem hn
    obtain ⟨m, hm, same⟩ := List.mem_map.mp this
    exact same ▸ h.counts m hm

theorem dropThrough_suffix (seq : Byte) (queue : List Notice) : dropThrough seq queue <:+ queue := by
  induction queue with
  | nil => exact List.suffix_refl _
  | cons n rest ih =>
    unfold dropThrough
    split
    · exact List.suffix_cons n rest
    · exact ih.trans (List.suffix_cons n rest)

/-- R161: the oldest notices leave. -/
theorem NoticesOk.suffix {q r : List Notice} {next : BitVec 8} (h : NoticesOk q next) (suffix : r <:+ q) :
    NoticesOk r next where
  bounded := suffix.length_le.trans h.bounded
  consecutive := h.consecutive.suffix suffix
  newest := fun n last => by
    obtain ⟨front, rfl⟩ := suffix
    exact h.newest n (by simp [List.getLast?_append, last])
  window := (suffix.sublist.filter _).length_le.trans h.window
  oldestSent := h.oldestSent.suffix suffix
  counts := fun n hn => h.counts n (suffix.subset hn)

theorem NoticeQueue.Ok.drop {q : NoticeQueue} (h : q.Ok) (seq : Byte) :
    ({ q with queue := dropThrough seq q.queue, ack := ackTimerFor (dropThrough seq q.queue) } : NoticeQueue).Ok := by
  refine (h.notices.suffix (dropThrough_suffix seq q.queue)).ok h.startTerm fun runs => ?_
  simp only [ackTimerFor] at runs ⊢
  split at runs
  · assumption
  · exact absurd rfl runs

theorem NoticeQueue.Ok.elapse {q : NoticeQueue} (h : q.Ok) (d : Nat) :
    ({ q with ack := q.ack.elapse d } : NoticeQueue).Ok :=
  { h with timer := fun runs => h.timer fun stopped => runs (by simp [stopped]) }

theorem noticesAtReset_ok : noticesAtReset.Ok := by
  constructor <;> simp [noticesAtReset]

/-! ## Every step -/

theorem State.Reports.noticesOk {s t : State} (h : s.Reports t) (ok : s.notices.Ok) : t.notices.Ok := by
  obtain ⟨bodies, posted⟩ := h.notices
  exact posted ▸ ok.postAll bodies

theorem State.LineOnly.noticesOk {s t : State} (h : s.LineOnly t) (ok : s.notices.Ok) : t.notices.Ok :=
  h.notices.rec ok fun _ marked ok => ok.marksOne marked

theorem State.closeEdit_noticesOk (s : State) (cause : EditCause) (ok : s.notices.Ok) : (s.closeEdit cause).notices.Ok := by
  unfold State.closeEdit
  split
  · exact ok.post _
  · exact ok

/-- R121: beyond the store, a COMMIT is work on the channels. -/
theorem State.commit_reports (s : State) (p : Profile) :
    (s.withStore ⟨{ p with generation := s.store.active.generation + 1 }, none, .stopped⟩).Reports (s.commit p) :=
  s.dropEdit.install_reports { p with generation := s.store.active.generation + 1 }

@[simp] theorem State.startPersist_notices (s : State) : s.startPersist.notices = s.notices := rfl

/-- R162 to R165: of the requests, those of chapters 9 and 11 turn the queue themselves, the others only post. -/
theorem State.Serves.noticesOk {s t : State} {r : RequestName} (h : s.Serves r t) (ok : s.notices.Ok) : t.notices.Ok := by
  cases h with
  | hello =>
    unfold State.hello
    split
    · exact (State.closeEdit_noticesOk s.emptyCache .level ok).unsend
    · exact ok
  | bye => exact (s.closeEdit_noticesOk .bye ok).unsend
  | grants =>
    unfold State.grantLevel
    dsimp only
    split
    · exact ok
    · refine State.closeEdit_noticesOk _ .level ?_
      exact ok
  | noticeMask start => exact { ok with startTerm := start }
  | ackNotices => exact ok.drop _
  | enable mask => exact (overMask_reports s enableChan_reports mask).noticesOk ok
  | disable mask => exact (overMask_reports s disableChan_reports mask).noticesOk ok
  | clear mask => exact (overMask_reports s clearChan_reports mask).noticesOk ok
  | softHold mask on => exact (overMask_reports s (softHoldChan_reports on) mask).noticesOk ok
  | commit => exact (s.commit_reports _).noticesOk ok
  | commitPersist =>
    rw [State.startPersist_notices]
    exact (s.commit_reports _).noticesOk ok
  | revert => exact (State.install_reports s _).noticesOk ok
  | nothing | codeRight | codeWrong | resetPart | openEdit | abandonEdit | put | persist | clearLog => exact ok

theorem State.holdPinTaken_reports (s : State) (n : Chan) (asserted : Bool) :
    (s.withPins { s.pins with hold := s.pins.hold.set n asserted }).Reports (s.holdPinTaken n asserted) := by
  unfold State.holdPinTaken
  dsimp only
  split
  · exact State.holdChanged_reports _ n _
  · exact .refl _

theorem State.pageCompletes_noticesOk {s : State} (ok : s.notices.Ok) (o : PersistOp) (matched : Bool) :
    (s.pageCompletes o matched).notices.Ok := by
  unfold State.pageCompletes
  split_ifs
  · exact ok.post _
  · exact ok
  · exact ok.post _

theorem State.startChannel_reports (s : State) (n : Chan) : s.Reports (s.startChannel n) := by
  unfold State.startChannel
  split
  · exact s.startWanted_reports n .start
  · exact .refl s

/-- R156: the Notice Queue is in order after every work that finds it so. -/
theorem State.Works.noticesOk {s t : State} (h : s.Works t) (ok : s.notices.Ok) : t.notices.Ok := by
  have elapsed : ∀ d, (s.elapse d).notices.Ok := ok.elapse
  cases h with
  | nothing => exact ok
  | elapses d => exact elapsed d
  | serves _ _ _ served => exact served.noticesOk ok
  | startsAck sent => exact { ok with timer := fun _ => sent }
  | ackExpires => exact (elapsed _).unsend
  | lockoutExpires => exact elapsed _
  | editIdleExpires => exact State.closeEdit_noticesOk _ .timeout (elapsed _)
  | holdPin n asserted => exact (s.holdPinTaken_reports n asserted).noticesOk ok
  | blankingExpires => exact (State.blankingExpires_reports _ _).noticesOk (elapsed _)
  | stableExpires => exact elapsed _
  | retryExpires => exact (State.retryExpires_reports _ _).noticesOk (elapsed _)
  | rampTick => exact (State.rampTick_reports _ _).noticesOk (elapsed _)
  | takesConfirmation => exact (s.takeConfirmation_reports _ _).noticesOk ok
  | scanStep => exact (s.scanStep_reports _).noticesOk ok
  | conversionCompletes => exact (State.conversionCompletes_reports _ _).noticesOk (elapsed _)
  | pageCompletes => exact State.pageCompletes_noticesOk (elapsed _) _ _

theorem State.Resets.noticesOk {s t : State} (h : s.Resets t) (ok : s.notices.Ok) : t.notices.Ok := by
  cases h with
  | link =>
    refine (State.closeEdit_noticesOk _ .linkReset ?_).unsend
    exact ok.elapse _
  | request | supply | pin => exact noticesAtReset_ok
  | released => exact ok
  | recallEnds =>
    have posted : ((s.elapse s.toRecallEnd).bringUp.postStart (s.elapse s.toRecallEnd).nv.recall.1).notices.Ok :=
      (ok.elapse _).post _
    exact (forEachChan_reports _ State.startChannel_reports).noticesOk posted

/-- Settles O52: the link only marks notices within the window, and every work keeps the queue in order. -/
theorem noticesStayConsecutive : Obligations.NoticesStayConsecutive := fun _ _ ok stepped =>
  step_keeps (P := fun s => s.notices.Ok) (fun _ _ ok => ok) (fun _ _ lines ok => lines.noticesOk ok)
    (fun _ _ work ok => work.noticesOk ok) (fun _ _ reset ok => reset.noticesOk ok) ok stepped

end Sys2Proof.Machine

/-! The Fault Log (R143 to R145), the session (R180 to R187) and the blocks before the end of recall (R188, R189), under every
step. -/

namespace Sys2Proof.Machine

/-! ## The start of a persistence operation (R130) touches the Nonvolatile Store alone -/

section

variable (s : State)

@[simp] theorem State.startPersist_channels : s.startPersist.channels = s.channels := rfl
@[simp] theorem State.startPersist_targets : s.startPersist.targets = s.targets := rfl
@[simp] theorem State.startPersist_drive : s.startPersist.drive = s.drive := rfl
@[simp] theorem State.startPersist_scanner : s.startPersist.scanner = s.scanner := rfl
@[simp] theorem State.startPersist_seq : s.startPersist.seq = s.seq := rfl
@[simp] theorem State.startPersist_store : s.startPersist.store = s.store := rfl
@[simp] theorem State.startPersist_nv : s.startPersist.nv = s.nv.startPersist s.store.active := rfl
@[simp] theorem State.startPersist_log : s.startPersist.log = s.log := rfl
@[simp] theorem State.startPersist_link : s.startPersist.link = s.link := rfl
@[simp] theorem State.startPersist_startup : s.startPersist.startup = s.startup := rfl
@[simp] theorem State.startPersist_pins : s.startPersist.pins = s.pins := rfl

end

/-! ## The Fault Log -/

/-- R145: a record under the next trip number joins the log, the oldest of 24 giving way. -/
theorem FaultLog.Ok.grows {l m : FaultLog} (h : l.Ok) (grown : l.Grows m) : m.Ok := by
  obtain ⟨records, next⟩ | ⟨r, number, takes, records, next⟩ := grown
  · exact ⟨records ▸ h.bounded, records ▸ h.consecutive, records ▸ next ▸ h.newest, records ▸ h.carriedOut⟩
  · have kept : ∃ front, front <:+ l.records ∧ front.length ≤ 23 ∧ m.records = front ++ [r] := by
      rw [records]
      by_cases full : 24 ≤ l.records.length
      · exact ⟨l.records.tail, List.tail_suffix _, by simpa using h.bounded, by simp [FaultLog.append, Config.logCapacity, full]⟩
      · exact ⟨l.records, List.suffix_refl _, by omega, by simp [FaultLog.append, Config.logCapacity, full]⟩
    obtain ⟨front, suffix, short, records⟩ := kept
    refine ⟨by simp [records]; omega, ?_, fun x last => ?_, fun x hx => ?_⟩
    · rw [records]
      refine List.isChain_append.mpr ⟨h.consecutive.suffix suffix, List.isChain_singleton _, fun a ha b hb => ?_⟩
      obtain rfl : r = b := by simpa using hb
      obtain ⟨old, split⟩ := suffix
      rw [number, h.newest a (by simp [← split, List.getLast?_append, Option.mem_def.mp ha])]
    · obtain rfl : r = x := by simpa [records] using last
      rw [next, number]
      rfl
    · rw [records] at hx
      rcases List.mem_append.mp hx with old | new
      · exact h.carriedOut x (suffix.subset old)
      · obtain rfl : x = r := by simpa using new
        exact takes

theorem FaultLog.Ok.cleared {l : FaultLog} : ({ l with records := [] } : FaultLog).Ok := by
  constructor <;> simp

theorem State.Reports.logOk {s t : State} (h : s.Reports t) (ok : s.log.Ok) : t.log.Ok :=
  h.log.rec ok fun _ grown ok => ok.grows grown

@[simp] theorem State.closeEdit_log (s : State) (c : EditCause) : (s.closeEdit c).log = s.log := by
  unfold State.closeEdit
  split <;> rfl

theorem State.hello_log (s : State) : s.hello.log = s.log := by
  unfold State.hello
  split
  · exact s.emptyCache.closeEdit_log .level
  · rfl

theorem State.grantLevel_log (s : State) (l : Level) : (s.grantLevel l).log = s.log := by
  unfold State.grantLevel
  dsimp only
  split
  · rfl
  · exact State.closeEdit_log _ _

theorem State.Serves.logOk {s t : State} {r : RequestName} (h : s.Serves r t) (ok : s.log.Ok) : t.log.Ok := by
  cases h with
  | hello => exact s.hello_log ▸ ok
  | bye => exact (s.closeEdit_log .bye).symm ▸ ok
  | grants => exact (s.grantLevel_log _).symm ▸ ok
  | enable mask => exact (overMask_reports s enableChan_reports mask).logOk ok
  | disable mask => exact (overMask_reports s disableChan_reports mask).logOk ok
  | clear mask => exact (overMask_reports s clearChan_reports mask).logOk ok
  | softHold mask on => exact (overMask_reports s (softHoldChan_reports on) mask).logOk ok
  | commit => exact (s.commit_reports _).logOk ok
  | commitPersist => 
    rw [State.startPersist_log]
    exact (s.commit_reports _).logOk ok
  | revert => exact (State.install_reports s _).logOk ok
  | clearLog => exact .cleared
  | nothing | codeRight | codeWrong | noticeMask | ackNotices | resetPart | openEdit | abandonEdit | put | persist => exact ok

theorem State.pageCompletes_log (s : State) (o : PersistOp) (matched : Bool) : (s.pageCompletes o matched).log = s.log := by
  unfold State.pageCompletes
  split_ifs <;> rfl

/-- R145: the Fault Log is in order after every work that finds it so. -/
theorem State.Works.logOk {s t : State} (h : s.Works t) (ok : s.log.Ok) : t.log.Ok := by
  cases h with
  | nothing | elapses | startsAck | ackExpires | lockoutExpires => exact ok
  | serves _ _ _ served => exact served.logOk ok
  | editIdleExpires => exact (State.closeEdit_log _ _).symm ▸ ok
  | holdPin n asserted => exact (s.holdPinTaken_reports n asserted).logOk ok
  | blankingExpires => exact (State.blankingExpires_reports _ _).logOk ok
  | stableExpires => exact ok
  | retryExpires => exact (State.retryExpires_reports _ _).logOk ok
  | rampTick => exact (State.rampTick_reports _ _).logOk ok
  | takesConfirmation => exact (s.takeConfirmation_reports _ _).logOk ok
  | scanStep => exact (s.scanStep_reports _).logOk ok
  | conversionCompletes => exact (State.conversionCompletes_reports _ _).logOk ok
  | pageCompletes => exact (State.pageCompletes_log _ _ _).symm ▸ ok

theorem State.Resets.logOk {s t : State} (h : s.Resets t) (ok : s.log.Ok) : t.log.Ok := by
  cases h with
  | link => exact (State.closeEdit_log _ _).symm ▸ ok
  | request | supply | pin => exact FaultLog.Ok.cleared (l := logAtReset)
  | released => exact ok
  | recallEnds => exact (forEachChan_reports _ State.startChannel_reports).logOk ok

/-- Settles O53: the link leaves the log, and every work appends at its end, empties it, or leaves it. -/
theorem faultLogStaysConsecutive : Obligations.FaultLogStaysConsecutive := fun _ _ ok stepped =>
  step_keeps (P := fun s => s.log.Ok) (fun _ _ ok => ok) (fun _ _ lines ok => lines.log ▸ ok)
    (fun _ _ work ok => work.logOk ok) (fun _ _ reset ok => reset.logOk ok) ok stepped

/-! ## The session -/

/-- What `State.SessionOk` reads. -/
theorem State.SessionOk.congr {s t : State} (h : s.SessionOk) (opened : t.link.opened = s.link.opened)
    (level : t.link.level = s.link.level) (failures : t.link.failures = s.link.failures)
    (lockout : t.link.lockout = .stopped ↔ s.link.lockout = .stopped) (staged : t.store.staged = s.store.staged)
    (idle : t.store.idle = .stopped ↔ s.store.idle = .stopped) : t.SessionOk where
  closed := by rw [opened, level]; exact h.closed
  edit := by rw [staged, opened, level]; exact h.edit
  idle := by rw [staged, h.idle, ne_eq, ne_eq, idle]
  failures := failures ▸ h.failures
  lockout := by rw [failures, h.lockout, ne_eq, ne_eq, lockout]

/-- Without an edit a session asks less. -/
theorem State.SessionOk.noEdit {s : State} (closed : s.link.opened = false → s.link.level = .observe)
    (staged : s.store.staged = none) (idle : s.store.idle = .stopped) (failures : s.link.failures ≤ 3)
    (lockout : s.link.failures = 3 ↔ s.link.lockout ≠ .stopped) : s.SessionOk where
  closed := closed
  edit := by simp [staged]
  idle := by simp [staged, idle]
  failures := failures
  lockout := lockout

theorem State.closeEdit_store (s : State) (c : EditCause) : (s.closeEdit c).store =
    if s.store.staged.isSome then { s.store with staged := none, idle := .stopped } else s.store := by
  unfold State.closeEdit
  split <;> rfl

theorem State.closeEdit_staged (s : State) (c : EditCause) : (s.closeEdit c).store.staged = none := by
  rw [State.closeEdit_store]
  cases h : s.store.staged <;> simp [h]

/-- R118: after the close of an edit no idle timer runs. -/
theorem State.closeEdit_idle {s : State} (h : s.store.staged.isSome = true ↔ s.store.idle ≠ .stopped) (c : EditCause) :
    (s.closeEdit c).store.idle = .stopped := by
  rw [State.closeEdit_store]
  cases hs : s.store.staged with
  | none => simpa [hs] using h
  | some p => rfl

theorem State.SessionOk.closeEdit {s : State} (h : s.SessionOk) (c : EditCause) : (s.closeEdit c).SessionOk :=
  .noEdit (by simpa using h.closed) (s.closeEdit_staged c) (State.closeEdit_idle h.idle c) (by simpa using h.failures)
    (by simpa using h.lockout)

theorem State.SessionOk.elapse {s : State} (h : s.SessionOk) (d : Nat) : (s.elapse d).SessionOk :=
  h.congr rfl rfl rfl (by simp) rfl (by simp)

theorem State.Reports.sessionOk {s t : State} (h : s.Reports t) (ok : s.SessionOk) : t.SessionOk :=
  ok.congr (by rw [h.link]) (by rw [h.link]) (by rw [h.link]) (by rw [h.link]) (by rw [h.store]) (by rw [h.store])

theorem State.LineOnly.sessionOk {s t : State} (h : s.LineOnly t) (ok : s.SessionOk) : t.SessionOk :=
  ok.congr h.session.1 h.session.2 h.lockout.1 (by rw [h.lockout.2]) (by rw [h.store]) (by rw [h.store])

theorem Level.eq_calibrate_of_code {l : Level} (h : 2 ≤ l.code) : l = .calibrate := by
  cases l <;> first | rfl | exact absurd h (by decide)

/-- R107 to R116: a request of the edit is executed only in an OPEN session at CALIBRATE. -/
theorem RequestName.needs_calibrate {r : RequestName} (h : r ∈ RequestName.openEdit :: putRequests) :
    r.servedClosed = false ∧ r.level = .calibrate := by
  revert r
  decide

/-- R185: a level granted without a look at the code is not a rise to CALIBRATE. -/
theorem State.SessionOk.grantLevel {s : State} {l : Level} (h : s.SessionOk) (opened : s.link.opened = true)
    (granted : l.code ≤ s.link.level.code ∨ l = .operate) : (s.grantLevel l).SessionOk := by
  unfold State.grantLevel
  dsimp only
  split_ifs with top
  · subst top
    have level : s.link.level = .calibrate := by
      rcases granted with le | same
      · exact Level.eq_calibrate_of_code le
      · cases same
    exact h.congr rfl level.symm rfl .rfl rfl .rfl
  · have idle := State.closeEdit_idle (s := s.withLink { s.link with level := l }) h.idle .level
    refine .noEdit (fun closed => ?_) (State.closeEdit_staged _ _) idle ?_ ?_
    · rw [State.closeEdit_link] at closed
      exact absurd (opened.symm.trans closed) (by decide)
    · rw [State.closeEdit_link]
      exact h.failures
    · rw [State.closeEdit_link]
      exact h.lockout

/-- R186: the lockout starts with the third failure, and a failure is counted only while it does not run. -/
theorem State.SessionOk.codeWrong {s : State} (h : s.SessionOk) (free : s.link.lockout = .stopped) : s.codeWrong.SessionOk where
  closed := h.closed
  edit := h.edit
  idle := h.idle
  failures := by
    have below : s.link.failures ≠ 3 := fun full => h.lockout.mp full free
    have := h.failures
    change s.link.failures + 1 ≤ 3
    omega
  lockout := by
    by_cases full : s.link.failures = 2 <;> simp [State.codeWrong, free, Config.lockoutFailures, full]

theorem State.SessionOk.codeRight {s : State} (h : s.SessionOk) (opened : s.link.opened = true)
    (free : s.link.lockout = .stopped) : s.codeRight.SessionOk where
  closed := fun closed => absurd (opened.symm.trans closed) (by decide)
  edit := fun _ => ⟨opened, rfl⟩
  idle := h.idle
  failures := Nat.zero_le _
  lockout := by simp [State.codeRight, free]

theorem State.SessionOk.hello {s : State} (h : s.SessionOk) : s.hello.SessionOk := by
  unfold State.hello
  split_ifs with opened
  · refine .noEdit (fun closed => ?_) (s.emptyCache.closeEdit_staged .level)
      (State.closeEdit_idle (s := s.emptyCache) h.idle .level) ?_ ?_
    · cases closed
    · simpa [State.setSession, State.unsendNotices, State.emptyCache] using h.failures
    · simpa [State.setSession, State.unsendNotices, State.emptyCache] using h.lockout
  · have staged : s.store.staged = none := by
      cases hs : s.store.staged with
      | none => rfl
      | some p => exact absurd (h.edit (by simp [hs])).1 opened
    have idle : s.store.idle = .stopped := by simpa [staged] using h.idle
    exact .noEdit (fun closed => nomatch closed) staged idle h.failures h.lockout

theorem State.SessionOk.bye {s : State} (h : s.SessionOk) :
    (((s.closeEdit .bye).unsendNotices).setSession false .observe).SessionOk :=
  .noEdit (fun _ => rfl) (s.closeEdit_staged .bye) (State.closeEdit_idle h.idle .bye)
    (by simpa [State.setSession, State.unsendNotices] using h.failures)
    (by simpa [State.setSession, State.unsendNotices] using h.lockout)

/-- R121: after a COMMIT no edit is open. -/
theorem State.SessionOk.commit {s : State} (h : s.SessionOk) (p : Profile) : (s.commit p).SessionOk :=
  (s.commit_reports p).sessionOk (.noEdit h.closed rfl rfl h.failures h.lockout)

theorem State.Serves.sessionOk {s t : State} {r : RequestName} (h : s.Serves r t) (ok : s.SessionOk)
    (session : s.link.opened = true ∨ r.servedClosed = true) (level : r.level.code ≤ s.link.level.code) : t.SessionOk := by
  have edit : ∀ {r : RequestName}, r ∈ RequestName.openEdit :: putRequests →
      (s.link.opened = true ∨ r.servedClosed = true) → r.level.code ≤ s.link.level.code →
      s.link.opened = true ∧ s.link.level = .calibrate := by
    intro r isEdit session level
    obtain ⟨closed, needs⟩ := RequestName.needs_calibrate isEdit
    rw [needs] at level
    exact ⟨by simpa [closed] using session, Level.eq_calibrate_of_code level⟩
  cases h with
  | nothing => exact ok
  | hello => exact ok.hello
  | bye => exact ok.bye
  | grants granted => exact ok.grantLevel (by simpa [RequestName.servedClosed] using session) granted
  | codeRight free => exact ok.codeRight (by simpa [RequestName.servedClosed] using session) free
  | codeWrong free => exact ok.codeWrong free
  | openEdit =>
    exact ⟨ok.closed, fun _ => edit (by decide) session level, by simp, ok.failures, ok.lockout⟩
  | abandonEdit => exact .noEdit ok.closed rfl rfl ok.failures ok.lockout
  | put isPut =>
    exact ⟨ok.closed, fun _ => edit (List.mem_cons_of_mem _ isPut) session level, by simp, ok.failures, ok.lockout⟩
  | enable mask => exact (overMask_reports s enableChan_reports mask).sessionOk ok
  | disable mask => exact (overMask_reports s disableChan_reports mask).sessionOk ok
  | clear mask => exact (overMask_reports s clearChan_reports mask).sessionOk ok
  | softHold mask on => exact (overMask_reports s (softHoldChan_reports on) mask).sessionOk ok
  | commit => exact ok.commit _
  | commitPersist =>
    rename_i p _ _ _ _
    refine (ok.commit p).congr ?_ ?_ ?_ ?_ ?_ ?_ <;> simp only [State.startPersist_link, State.startPersist_store]
  | revert =>
    exact (State.install_reports s _).sessionOk (ok.congr rfl rfl rfl .rfl rfl .rfl)
  | noticeMask | ackNotices | resetPart | persist | clearLog => exact ok.congr rfl rfl rfl .rfl rfl .rfl

theorem State.SessionOk.ofReset {s : State} {rate : LineRate} (link : s.link = linkAtReset rate)
    (store : s.store = storeAtReset) : s.SessionOk :=
  .noEdit (by simp [link, linkAtReset]) (by simp [store, storeAtReset]) (by simp [store, storeAtReset])
    (by simp [link, linkAtReset]) (by simp [link, linkAtReset])

theorem State.Works.sessionOk {s t : State} (h : s.Works t) (ok : s.SessionOk) : t.SessionOk := by
  cases h with
  | nothing => exact ok
  | elapses d => exact ok.elapse d
  | serves _ session level served => exact served.sessionOk ok session level
  | startsAck => exact ok.congr rfl rfl rfl .rfl rfl .rfl
  | ackExpires => exact (ok.elapse _).congr rfl rfl rfl .rfl rfl .rfl
  | lockoutExpires =>
    rename_i left _
    have passed := ok.elapse left
    exact ⟨passed.closed, passed.edit, passed.idle, Nat.zero_le _, by simp [State.lockoutExpires]⟩
  | editIdleExpires => exact (ok.elapse _).closeEdit .timeout
  | holdPin n asserted => exact (s.holdPinTaken_reports n asserted).sessionOk (ok.congr rfl rfl rfl .rfl rfl .rfl)
  | blankingExpires => exact (State.blankingExpires_reports _ _).sessionOk (ok.elapse _)
  | stableExpires => exact (State.stableExpires_reports _ _).sessionOk (ok.elapse _)
  | retryExpires => exact (State.retryExpires_reports _ _).sessionOk (ok.elapse _)
  | rampTick => exact (State.rampTick_reports _ _).sessionOk (ok.elapse _)
  | takesConfirmation => exact (s.takeConfirmation_reports _ _).sessionOk ok
  | scanStep => exact (s.scanStep_reports _).sessionOk ok
  | conversionCompletes => exact (State.conversionCompletes_reports _ _).sessionOk (ok.elapse _)
  | pageCompletes =>
    unfold State.pageCompletes
    split_ifs <;> exact (ok.elapse _).congr rfl rfl rfl .rfl rfl .rfl

theorem State.Resets.sessionOk {s t : State} (h : s.Resets t) (ok : s.SessionOk) : t.SessionOk := by
  cases h with
  | link =>
    rename_i left _
    have idle := State.closeEdit_idle (s := (s.elapse left).withLink (s.elapse left).link.afterLinkReset)
      (ok.elapse left).idle .linkReset
    refine .noEdit (fun _ => ?_) (State.closeEdit_staged _ _) idle ?_ ?_
    · simp [State.linkReset, State.unsendNotices, Link.afterLinkReset]
    · simpa [State.linkReset, State.unsendNotices, Link.afterLinkReset] using ok.failures
    · simpa [State.linkReset, State.unsendNotices, Link.afterLinkReset] using ok.lockout
  | request => exact .noEdit (fun _ => rfl) rfl rfl (Nat.zero_le _) (by simp [State.requestReset, State.endResetHeld, State.fullReset, linkAtReset])
  | supply | pin => exact .ofReset rfl rfl
  | released => exact ok.congr rfl rfl rfl .rfl rfl .rfl
  | recallEnds =>
    have elapsed := ok.elapse s.toRecallEnd
    have up : ((s.elapse s.toRecallEnd).bringUp.postStart (s.elapse s.toRecallEnd).nv.recall.1).SessionOk :=
      .noEdit elapsed.closed rfl rfl elapsed.failures elapsed.lockout
    exact ((forEachChan_reports _ State.startChannel_reports).sessionOk up).congr rfl rfl rfl .rfl rfl .rfl

/-- Settles O55: the link leaves the session, and every work leaves it in order. -/
theorem editsNeedCalibrateAndASession : Obligations.EditsNeedCalibrateAndASession := fun _ _ ok stepped =>
  step_keeps (P := State.SessionOk) (fun _ _ ok => ok.congr rfl rfl rfl .rfl rfl .rfl) (fun _ _ lines ok => lines.sessionOk ok)
    (fun _ _ work ok => work.sessionOk ok) (fun _ _ reset ok => reset.sessionOk ok) ok stepped

end Sys2Proof.Machine

/-! What every command keeps: the queue of waiting commands (section 5.5), and, until the end of recall, the blocks' values after a
full reset (R188, R189). -/

namespace Sys2Proof.Machine

/-! ## The phases -/

@[simp] theorem State.pageCompletes_startup (s : State) (o : PersistOp) (matched : Bool) :
    (s.pageCompletes o matched).startup = s.startup := by
  unfold State.pageCompletes
  split_ifs <;> rfl

@[simp] theorem State.pageCompletes_pins (s : State) (o : PersistOp) (matched : Bool) :
    (s.pageCompletes o matched).pins = s.pins := by
  unfold State.pageCompletes
  split_ifs <;> rfl

@[simp] theorem State.pageCompletes_pending (s : State) (o : PersistOp) (matched : Bool) :
    (s.pageCompletes o matched).pending = s.pending := by
  unfold State.pageCompletes
  split_ifs <;> rfl

/-- A work that neither begins nor ends a full reset: the phase, the supply level and the waiting commands stay. -/
structure State.SamePhase (s t : State) : Prop where
  phase : t.startup.phase = s.startup.phase
  supply : t.pins.supplyGood = s.pins.supplyGood
  pending : t.pending = s.pending

theorem State.Reports.samePhase {s t : State} (h : s.Reports t) : s.SamePhase t :=
  ⟨by rw [h.startup], by rw [h.pins], h.pending⟩

theorem State.elapse_samePhase (s : State) (d : Nat) : s.SamePhase (s.elapse d) := ⟨by simp, rfl, rfl⟩

theorem State.SamePhase.trans {s t u : State} (h : s.SamePhase t) (k : t.SamePhase u) : s.SamePhase u :=
  ⟨k.phase.trans h.phase, k.supply.trans h.supply, k.pending.trans h.pending⟩

theorem State.Works.samePhase {s t : State} (h : s.Works t) : s.SamePhase t := by
  have after : ∀ {d : Nat} {u : State}, (s.elapse d).Reports u → s.SamePhase u := fun h =>
    (s.elapse_samePhase _).trans h.samePhase
  cases h with
  | nothing => exact ⟨rfl, rfl, rfl⟩
  | elapses d => exact s.elapse_samePhase d
  | serves _ _ _ served =>
    have frame := served.sameFrame
    exact ⟨by rw [frame.startup], by rw [frame.pins], frame.pending⟩
  | startsAck => exact ⟨rfl, rfl, rfl⟩
  | ackExpires | lockoutExpires => exact .trans (s.elapse_samePhase _) ⟨rfl, rfl, rfl⟩
  | editIdleExpires =>
    exact ⟨by simp [State.editIdleExpires], by simp [State.editIdleExpires], by simp [State.editIdleExpires]⟩
  | holdPin n asserted =>
    have told := s.holdPinTaken_reports n asserted
    exact ⟨by rw [told.startup]; rfl, by rw [told.pins]; rfl, told.pending⟩
  | blankingExpires => exact after (State.blankingExpires_reports _ _)
  | stableExpires => exact after (State.stableExpires_reports _ _)
  | retryExpires => exact after (State.retryExpires_reports _ _)
  | rampTick => exact after (State.rampTick_reports _ _)
  | takesConfirmation => exact (s.takeConfirmation_reports _ _).samePhase
  | scanStep => exact (s.scanStep_reports _).samePhase
  | conversionCompletes => exact after (State.conversionCompletes_reports _ _)
  | pageCompletes => exact ⟨by simp, by simp, by simp⟩

theorem State.linkReset_samePhase (s : State) : s.SamePhase s.linkReset :=
  ⟨by simp [State.linkReset, State.unsendNotices], by simp [State.linkReset, State.unsendNotices],
    by simp [State.linkReset, State.unsendNotices]⟩

/-- R190: beyond the blocks it brings up, the end of recall is work on the channels, and the phase is RUNNING. -/
theorem State.recallEnds_reports (s : State) :
    (s.bringUp.postStart s.nv.recall.1).nowRunning.Reports s.recallEnds := by
  have told : (s.bringUp.postStart s.nv.recall.1).Reports
      (forEachChan State.startChannel (s.bringUp.postStart s.nv.recall.1)) :=
    forEachChan_reports _ State.startChannel_reports
  exact ⟨told.store, told.nv, told.link, by simp [State.recallEnds, State.nowRunning, told.startup], told.pins, told.pending,
    told.notices, told.log⟩

theorem State.Resets.pending {s t : State} (h : s.Resets t) : t.pending = s.pending := by
  cases h with
  | recallEnds => exact (State.recallEnds_reports _).pending
  | link => exact (State.linkReset_samePhase _).pending
  | request | supply | pin | released => rfl

/-- Settles O3: a command is the link's part, a work, and the link's part, and none of them touches the waiting commands. -/
theorem everyCommandEndsInANextState : Obligations.EveryCommandEndsInANextState := fun i s => by
  obtain ⟨t, carried, v, u, first, work, last⟩ := exec_carries i s
  have kept : u.pending = v.pending := work.elim (·.samePhase.pending) (·.pending)
  exact ⟨t, carried, (last.pending.trans kept).trans first.pending⟩

/-! ## Until the end of recall -/

/-- While the part runs, `State.HeldUntilRecall` asks for the supply alone. -/
theorem State.HeldUntilRecall.of_running {s : State} (running : s.startup.phase = .running)
    (powered : s.pins.supplyGood = true) : s.HeldUntilRecall := by
  constructor <;> intro h
  all_goals first | exact absurd running h | exact powered | (rw [running] at h; cases h)

/-- Every block but the link at its values after a full reset, as before the end of recall. -/
structure State.BlocksAtReset (s : State) : Prop where
  channels : s.channels = Quad.const channelAtReset
  targets : s.targets = Quad.const 0
  drive : s.drive = Quad.const driveAtReset
  scanner : s.scanner = scannerAtReset
  seq : s.seq = sequencerAtReset
  store : s.store = storeAtReset
  nv : s.nv = nvAtReset s.nv.pagesA s.nv.pagesB
  log : s.log = logAtReset
  notices : s.notices = noticesAtReset
  session : s.link.opened = false ∧ s.link.resetPending = false

theorem State.HeldUntilRecall.blocks {s : State} (h : s.HeldUntilRecall) (held : s.startup.phase ≠ .running) :
    s.BlocksAtReset :=
  ⟨h.channels held, h.targets held, h.drive held, h.scanner held, h.seq held, h.store held, h.nv held, h.log held,
    h.notices held, h.session held⟩

theorem State.BlocksAtReset.held {s : State} (h : s.BlocksAtReset)
    (still : s.startup.phase = .resetHeld → s.link.queue = [] ∧ s.link.tx = .idle)
    (powered : s.startup.phase ≠ .resetHeld → s.pins.supplyGood = true) : s.HeldUntilRecall :=
  ⟨fun _ => h.channels, fun _ => h.targets, fun _ => h.drive, fun _ => h.scanner, fun _ => h.seq, fun _ => h.store,
    fun _ => h.nv, fun _ => h.log, fun _ => h.notices, fun _ => h.session, still, powered⟩

theorem State.BlocksAtReset.elapse {s : State} (h : s.BlocksAtReset) (d : Nat) : (s.elapse d).BlocksAtReset where
  channels := by rw [State.elapse_channels, h.channels]; rfl
  targets := h.targets
  drive := by rw [State.elapse_drive, h.drive]; rfl
  scanner := h.scanner
  seq := by rw [State.elapse_seq, h.seq]; rfl
  store := by rw [State.elapse_store, h.store]; rfl
  nv := by rw [State.elapse_nv, h.nv]; rfl
  log := h.log
  notices := by rw [State.elapse_notices, h.notices]; rfl
  session := h.session

theorem NoticeQueue.MarksOne.atReset {q : NoticeQueue} (h : noticesAtReset.MarksOne q) : q = noticesAtReset := h.2

theorem State.LineOnly.notices_atReset {s t : State} (h : s.LineOnly t) (none : s.notices = noticesAtReset) :
    t.notices = noticesAtReset :=
  h.notices.rec none fun _ marked same => (same ▸ marked).atReset

theorem State.LineOnly.blocksAtReset {s t : State} (h : s.LineOnly t) (blocks : s.BlocksAtReset) : t.BlocksAtReset where
  channels := h.channels.trans blocks.channels
  targets := h.targets.trans blocks.targets
  drive := h.drive.trans blocks.drive
  scanner := h.scanner.trans blocks.scanner
  seq := h.seq.trans blocks.seq
  store := h.store.trans blocks.store
  nv := by rw [h.nv]; exact blocks.nv
  log := h.log.trans blocks.log
  notices := h.notices_atReset blocks.notices
  session := ⟨h.session.1.trans blocks.session.1, h.resetPending.trans blocks.session.2⟩

theorem State.LineOnly.held {s t : State} (h : s.LineOnly t) (ok : s.HeldUntilRecall) : t.HeldUntilRecall := by
  have powered : t.startup.phase ≠ .resetHeld → t.pins.supplyGood = true := by
    rw [h.startup, h.pins.2]
    exact ok.powered
  by_cases running : s.startup.phase = .running
  · have phase : t.startup.phase = .running := h.startup ▸ running
    exact .of_running phase (powered (by simp [phase]))
  · have blocks := ok.blocks running
    refine (h.blocksAtReset blocks).held (fun held => ?_) powered
    rw [h.startup] at held
    obtain ⟨empty, idle⟩ := ok.still held
    exact h.still held blocks.session.1 empty idle

/-- R188, R189: before the end of recall no work but the link's own and the passing of time finds anything to do, and none of
these moves a block. -/
theorem State.Works.blocksAtReset {s t : State} (h : s.Works t) (held : s.startup.phase ≠ .running)
    (blocks : s.BlocksAtReset) :
    t.BlocksAtReset ∧ (s.startup.phase = .resetHeld → t.link.queue = s.link.queue ∧ t.link.tx = s.link.tx) := by
  have channel : ∀ n, s.channels.get n = channelAtReset := fun n => by rw [blocks.channels, Quad.get_const]
  have drive : ∀ n, s.drive.get n = driveAtReset := fun n => by rw [blocks.drive, Quad.get_const]
  have passed := blocks.elapse
  cases h with
  | nothing => exact ⟨blocks, fun _ => ⟨rfl, rfl⟩⟩
  | elapses d => exact ⟨passed d, fun _ => ⟨rfl, rfl⟩⟩
  | serves running => exact absurd running held
  | startsAck sent => simp [blocks.notices, noticesAtReset] at sent
  | ackExpires timer => simp [blocks.notices, noticesAtReset] at timer
  | lockoutExpires =>
    rename_i left _
    exact ⟨{ passed left with }, fun _ => ⟨rfl, rfl⟩⟩
  | editIdleExpires timer => simp [blocks.store, storeAtReset] at timer
  | holdPin n asserted =>
    simp only [State.holdPinTaken, held, if_false]
    exact ⟨{ blocks with }, fun _ => ⟨rfl, rfl⟩⟩
  | blankingExpires state => simp [channel, channelAtReset] at state
  | stableExpires state => simp [channel, channelAtReset] at state
  | retryExpires state => simp [channel, channelAtReset] at state
  | rampTick timer => simp [drive, driveAtReset] at timer
  | takesConfirmation running => exact absurd running held
  | scanStep scanning => simp [blocks.scanner, scannerAtReset] at scanning
  | conversionCompletes running => simp [blocks.seq, sequencerAtReset] at running
  | pageCompletes op =>
    rw [blocks.nv] at op
    cases op

theorem State.Works.held {s t : State} (h : s.Works t) (ok : s.HeldUntilRecall) : t.HeldUntilRecall := by
  have powered : t.startup.phase ≠ .resetHeld → t.pins.supplyGood = true := by
    rw [h.samePhase.phase, h.samePhase.supply]
    exact ok.powered
  by_cases running : s.startup.phase = .running
  · have phase : t.startup.phase = .running := h.samePhase.phase.trans running
    exact .of_running phase (powered (by simp [phase]))
  · obtain ⟨blocks, line⟩ := h.blocksAtReset running (ok.blocks running)
    refine blocks.held (fun held => ?_) powered
    rw [h.samePhase.phase] at held
    obtain ⟨queue, tx⟩ := line held
    rw [queue, tx]
    exact ok.still held

theorem State.fullReset_blocksAtReset (s : State) (cause : ResetCause) : (s.fullReset cause).BlocksAtReset :=
  ⟨rfl, rfl, rfl, rfl, rfl, rfl, rfl, rfl, rfl, rfl, rfl⟩

/-- R172: a link reset before the end of recall finds no edit and no notices. -/
theorem State.BlocksAtReset.linkReset {s : State} (h : s.BlocksAtReset) : s.linkReset.BlocksAtReset := by
  have noEdit : s.store.staged.isSome = false := by simp [h.store, storeAtReset]
  have reset : s.linkReset = (s.withLink s.link.afterLinkReset).unsendNotices := by
    simp only [State.linkReset, State.closeEdit, State.withLink_store, noEdit, Bool.false_eq_true, if_false]
  rw [reset]
  refine { h with notices := ?_, session := ⟨rfl, h.session.2⟩ }
  simp only [State.unsendNotices, State.withNotices_notices, State.withLink_notices, h.notices]
  rfl

/-- R188 to R191: a full reset leaves the blocks at their values, and they stay there until the end of recall. -/
theorem State.Resets.held {s t : State} (h : s.Resets t) (ok : s.HeldUntilRecall) : t.HeldUntilRecall := by
  cases h with
  | link hears =>
    rename_i left
    have same := (s.elapse_samePhase left).trans (State.linkReset_samePhase _)
    have powered : (s.elapse left).linkReset.pins.supplyGood = true := same.supply.trans (ok.powered hears)
    by_cases running : s.startup.phase = .running
    · exact .of_running (same.phase.trans running) powered
    · exact ((ok.blocks running).elapse left).linkReset.held (fun held => absurd (same.phase ▸ held) hears) fun _ => powered
  | request held =>
    have hears : s.startup.phase ≠ .resetHeld := held.elim id fun sends inReset => sends (ok.still inReset).2
    exact State.BlocksAtReset.held { s.fullReset_blocksAtReset .request with } nofun fun _ => ok.powered hears
  | supply => exact (State.fullReset_blocksAtReset _ _).held (fun _ => ⟨rfl, rfl⟩) fun ended => absurd rfl ended
  | pin => exact (State.fullReset_blocksAtReset _ _).held (fun _ => ⟨rfl, rfl⟩) fun ended => absurd rfl ended
  | released held =>
    have blocks := ok.blocks (by simp [held])
    exact State.BlocksAtReset.held { blocks with } nofun fun _ => rfl
  | recallEnds recalling =>
    have up := (s.elapse s.toRecallEnd).recallEnds_reports
    refine .of_running (by rw [up.startup]; rfl) ?_
    rw [up.pins]
    exact ok.powered (by simp [recalling])

theorem State.HeldUntilRecall.queue {s : State} (h : s.HeldUntilRecall) (rest : List Instr) :
    ({ s with pending := rest } : State).HeldUntilRecall := { h with }

/-- Settles O56: before the end of recall there is nothing to work on, and a reset leaves the values that are held. -/
theorem blocksAreHeldUntilRecallEnds : Obligations.BlocksAreHeldUntilRecallEnds := fun _ _ ok stepped =>
  step_keeps (fun _ rest ok => ok.queue rest) (fun _ _ lines ok => lines.held ok) (fun _ _ work ok => work.held ok)
    (fun _ _ reset ok => reset.held ok) ok stepped

end Sys2Proof.Machine

/-! The request queue and the receiver (R167 to R177) under every command. -/

namespace Sys2Proof.Machine

/-- R167: the request queue and the receiver are in order. -/
structure Link.InOrder (l : Link) : Prop where
  queue : l.QueueOk
  receiver : l.ReceiverOk

/-- What `Link.InOrder` reads. -/
theorem Link.InOrder.congr {l m : Link} (h : l.InOrder) (queue : m.queue = l.queue) (tx : m.tx = l.tx)
    (phase : m.phase = l.phase) (collected : m.collected = l.collected)
    (gap : m.gap = .stopped ↔ l.gap = .stopped) : m.InOrder where
  queue := ⟨queue ▸ h.queue.execute, queue ▸ h.queue.overrun, queue ▸ h.queue.headServed, queue ▸ h.queue.tailWaits,
    by rw [tx, Link.readyReply, queue]; exact h.queue.onLine⟩
  receiver := ⟨by rw [phase, collected, gap]; exact h.receiver.outside, by rw [phase, ne_eq, gap]; exact h.receiver.inside,
    by rw [collected]; exact h.receiver.announced⟩

theorem Link.SameLine.inOrder {l m : Link} (same : l.SameLine m) (h : l.InOrder) : m.InOrder :=
  h.congr same.queue same.tx same.phase same.collected (by rw [same.gap])

theorem State.Reports.inOrder {s t : State} (h : s.Reports t) (ok : s.link.InOrder) : t.link.InOrder := h.link ▸ ok

theorem Link.InOrder.elapse {s : State} (h : s.link.InOrder) (d : Nat) : (s.elapse d).link.InOrder :=
  h.congr rfl rfl rfl rfl (by simp)

/-! ## The receiver -/

/-- R168: the receiver hunts with no partial frame. -/
theorem Link.ReceiverOk.hunting {l : Link} (phase : l.phase ≠ .collect) (collected : l.collected = [])
    (gap : l.gap = .stopped) : l.ReceiverOk :=
  ⟨fun _ => ⟨collected, gap⟩, fun h => absurd h phase, fun len rest h => by simp [collected] at h⟩

theorem Link.InOrder.hunt {s : State} (h : s.link.InOrder) : s.hunt.link.InOrder :=
  ⟨⟨h.queue.execute, h.queue.overrun, h.queue.headServed, h.queue.tailWaits, h.queue.onLine⟩, .hunting nofun rfl rfl⟩

theorem Link.InOrder.rxdHigh {s : State} (h : s.link.InOrder) : s.rxdHigh.link.InOrder := h.congr rfl rfl rfl rfl .rfl

theorem Link.InOrder.rxdFalls {s : State} (h : s.link.InOrder) : s.rxdFalls.link.InOrder := h.congr rfl rfl rfl rfl .rfl

/-- R168: what is collected is shorter than the frame its length byte announces. -/
theorem Link.InOrder.collecting {s : State} (h : s.link.InOrder) {bytes : List Byte}
    (announced : ∀ len rest, bytes = len :: rest → 3 ≤ len.toNat ∧ len.toNat ≤ 120 ∧ bytes.length < frameSize len) :
    (s.collecting bytes).link.InOrder :=
  ⟨⟨h.queue.execute, h.queue.overrun, h.queue.headServed, h.queue.tailWaits, h.queue.onLine⟩,
    ⟨fun out => absurd rfl out, nofun, announced⟩⟩

theorem Link.InOrder.huntByte {s : State} (h : s.link.InOrder) (b : Byte) : (s.huntByte b).link.InOrder := by
  unfold State.huntByte
  split
  · exact h.collecting (by simp)
  · exact h.hunt

theorem Link.InOrder.lengthByte {s : State} (h : s.link.InOrder) (b : Byte) : (s.lengthByte b).link.InOrder := by
  unfold State.lengthByte
  split_ifs with inRange
  · refine h.collecting fun len rest first => ?_
    obtain ⟨rfl, rfl⟩ := List.cons.inj first
    simp only [Config.minLength, Config.maxLength] at inRange
    simp only [frameSize, List.length_cons, List.length_nil]
    omega
  · exact h.hunt.huntByte b

/-! ## The request queue -/

/-- The request queue as `Link.QueueOk` has it, but for a head that has not been served yet. -/
structure Link.QueueWaits (l : Link) : Prop where
  execute : countMark .execute l.queue ≤ 2
  overrun : countMark .overrun l.queue ≤ 4
  tailWaits : ∀ e ∈ l.queue.tail, e.reply = none
  onLine : ∀ r, l.tx = .reply r true → l.readyReply = some r

theorem countMark_snoc (mark : Mark) (q : List Entry) (code tag : Byte) (payload : List Byte) (m : Mark) :
    countMark mark (q ++ [newEntry code tag payload m]) = countMark mark q + if m = mark then 1 else 0 := by
  by_cases h : m = mark <;> simp [countMark, newEntry, h]

theorem countMark_served (mark : Mark) (e : Entry) (rest : List Entry) (r : Option Reply) :
    countMark mark ({ e with reply := r } :: rest) = countMark mark (e :: rest) := by
  by_cases h : e.mark = mark <;> simp [countMark, h]

theorem countMark_tail_le (m : Mark) (q : List Entry) : countMark m q.tail ≤ countMark m q :=
  ((List.tail_sublist q).filter _).length_le

/-- R173: a request joins the tail within the bounds, or is discarded. -/
theorem placeRequest_cases (code tag : Byte) (payload : List Byte) (q : List Entry) :
    placeRequest code tag payload q = q
    ∨ ∃ m, placeRequest code tag payload q = q ++ [newEntry code tag payload m]
      ∧ (m = .execute → countMark .execute q < 2) ∧ (m = .overrun → countMark .overrun q < 4) := by
  unfold placeRequest
  split_ifs with execute overrun
  · exact .inr ⟨.execute, rfl, fun _ => execute, nofun⟩
  · exact .inr ⟨.overrun, rfl, nofun, fun _ => overrun⟩
  · exact .inl rfl

theorem Link.QueueOk.place {l : Link} (h : l.QueueOk) (code tag : Byte) (payload : List Byte) :
    ({ l with queue := placeRequest code tag payload l.queue } : Link).QueueWaits := by
  rcases placeRequest_cases code tag payload l.queue with kept | ⟨m, joined, execute, overrun⟩
  · rw [kept]
    exact ⟨h.execute, h.overrun, h.tailWaits, h.onLine⟩
  · rw [joined]
    refine ⟨?_, ?_, fun e he => ?_, fun r sends => ?_⟩
    · have := h.execute
      rw [countMark_snoc]
      split_ifs with same
      · exact execute same
      · omega
    · have := h.overrun
      rw [countMark_snoc]
      split_ifs with same
      · exact overrun same
      · omega
    · cases hq : l.queue with
      | nil => simp [hq] at he
      | cons head rest =>
        have tail := h.tailWaits
        simp only [hq, List.tail_cons, List.cons_append, List.mem_append, List.mem_singleton] at he tail
        rcases he with old | rfl
        · exact tail e old
        · rfl
    · have ready := h.onLine r sends
      cases hq : l.queue with
      | nil => simp [Link.readyReply, hq] at ready
      | cons head rest => simpa [Link.readyReply, hq] using ready

/-- R174: an owner's work leaves the queue and the frame on the line. -/
theorem serveEntry_sameFrame (e : Entry) (s : State) : s.SameFrame (serveEntry e s).1 := by
  have same : s.SameFrame s := .of_link rfl rfl rfl rfl
  unfold serveEntry
  cases e.mark with
  | overrun => exact same
  | execute =>
    simp only [serveExecute]
    split
    · exact same
    · split_ifs
      · exact same
      · simp only [serveRunning]
        split
        · exact same
        · simp only [serveKnown]
          split_ifs
          · exact same
          · exact same
          · exact same
          · exact (ownerServes_serves _ _ s).sameFrame

/-- R173: once its head has been served the queue is in order; the receiver is as it was. -/
theorem State.serveHead_inOrder {s : State} (waits : s.link.QueueWaits) (receiver : s.link.ReceiverOk) :
    s.serveHead.link.InOrder := by
  unfold State.serveHead
  cases hq : s.link.queue with
  | nil =>
    exact ⟨⟨waits.execute, waits.overrun, by simp [hq], waits.tailWaits, waits.onLine⟩, receiver⟩
  | cons e rest =>
    dsimp only
    split_ifs with served
    · exact ⟨⟨waits.execute, waits.overrun, by simp [hq, served], waits.tailWaits, waits.onLine⟩, receiver⟩
    · have line := (serveEntry_sameFrame e s).line
      have execute := waits.execute
      have overrun := waits.overrun
      have tail := waits.tailWaits
      rw [hq] at execute overrun tail
      rw [← countMark_served _ e rest (some (serveEntry e s).2)] at execute overrun
      refine ⟨⟨execute, overrun, ?_, tail, fun r sends => ?_⟩, ?_, ?_, ?_⟩
      · rintro head ⟨⟩
        rfl
      · have ready := waits.onLine r (line.tx ▸ sends)
        simp only [Link.readyReply, hq, List.head?_cons, Option.bind_some] at ready
        simp [ready] at served
      · rw [State.withQueue, State.withLink_link, line.phase, line.collected, line.gap]
        exact receiver.outside
      · rw [State.withQueue, State.withLink_link, line.phase, line.gap]
        exact receiver.inside
      · rw [State.withQueue, State.withLink_link, line.collected]
        exact receiver.announced

theorem Link.InOrder.settle {s : State} (h : s.link.InOrder) : s.settle.link.InOrder := by
  rcases s.settle_cases with ⟨_, kept⟩ | ⟨_, r, ready, begun⟩ | ⟨_, _, n, _, begun⟩ | ⟨_, _, _, kept⟩
  · rwa [kept]
  · rw [begun]
    refine ⟨⟨h.queue.execute, h.queue.overrun, h.queue.headServed, h.queue.tailWaits, ?_⟩, { h.receiver with }⟩
    rintro _ ⟨⟩
    exact ready
  · rw [begun]
    exact ⟨⟨h.queue.execute, h.queue.overrun, h.queue.headServed, h.queue.tailWaits, nofun⟩, { h.receiver with }⟩
  · rwa [kept]

theorem Link.InOrder.handOn {s : State} (h : s.link.InOrder) (code tag : Byte) (payload : List Byte) :
    (s.handOn code tag payload).link.InOrder :=
  (State.serveHead_inOrder (s := s.withQueue _) (h.queue.place code tag payload) { h.receiver with }).settle

theorem Link.InOrder.frameDone {s : State} (h : s.link.InOrder) (bytes : List Byte) :
    (s.frameDone bytes).link.InOrder := by
  unfold State.frameDone
  split_ifs
  · exact h
  · split
    · split_ifs
      · exact h.handOn _ _ _
      · exact h
    · exact h

theorem Link.InOrder.receiveRequest {s : State} (h : s.link.InOrder) (code tag : Byte) (payload : List Byte) :
    (s.receiveRequest code tag payload).link.InOrder := by
  unfold State.receiveRequest
  split_ifs
  · exact h.rxdHigh.hunt.handOn code tag payload
  · exact h

theorem Link.isLastByte_cons {l : Link} {len : Byte} {rest : List Byte} (h : l.collected = len :: rest) :
    l.isLastByte = (decide (l.phase = .collect) && decide (l.collected.length + 1 = frameSize len)) := by
  rw [Link.isLastByte, h]

theorem Link.InOrder.collectByte {s : State} (h : s.link.InOrder) (collects : s.link.phase = .collect) (b : Byte) :
    (s.collectByte b).link.InOrder := by
  unfold State.collectByte
  split_ifs with last first
  · exact h.hunt.frameDone _
  · exact h.lengthByte b
  · refine h.collecting fun len rest starts => ?_
    obtain ⟨head, more, hc⟩ := List.exists_cons_of_ne_nil first
    rw [hc, List.cons_append] at starts
    obtain ⟨rfl, rfl⟩ := List.cons.inj starts
    obtain ⟨least, most, short⟩ := h.receiver.announced head more hc
    rw [Link.isLastByte_cons hc] at last
    simp only [collects, decide_true, Bool.true_and, decide_eq_true_eq] at last
    rw [List.length_append, List.length_singleton]
    exact ⟨least, most, by omega⟩

theorem Link.InOrder.byteReceived {s : State} (h : s.link.InOrder) (b : Byte) : (s.byteReceived b).link.InOrder := by
  unfold State.byteReceived
  split_ifs
  · split
    · exact h.rxdHigh.huntByte b
    · rename_i collects
      exact Link.InOrder.collectByte (s := s.rxdHigh) h.rxdHigh collects b
    · exact h
  · exact h

theorem Link.InOrder.lastByteReceived {s : State} (h : s.link.InOrder) (b : Byte) :
    (s.lastByteReceived b).link.InOrder := by
  unfold State.lastByteReceived
  split_ifs
  · exact h.rxdHigh.hunt.frameDone _
  · exact h

theorem Link.InOrder.framingError {s : State} (h : s.link.InOrder) : s.framingError.link.InOrder := by
  unfold State.framingError
  split_ifs
  · exact h.hunt.rxdFalls
  · exact h.rxdFalls
  · exact h

theorem Link.InOrder.breakEnd {s : State} (h : s.link.InOrder) : s.breakEnd.link.InOrder := by
  unfold State.breakEnd
  dsimp only
  split_ifs
  · exact h.rxdHigh.hunt
  · exact h.rxdHigh

/-! ## Resets of the link -/

theorem linkAtReset_inOrder (rate : LineRate) : (linkAtReset rate).InOrder :=
  ⟨⟨Nat.zero_le _, Nat.zero_le _, nofun, nofun, nofun⟩, .hunting nofun rfl rfl⟩

theorem State.requestReset_inOrder (s : State) : s.requestReset.link.InOrder :=
  (linkAtReset_inOrder (lineRate s.pins)).congr rfl rfl rfl rfl .rfl

theorem TxFrame.orphan_not_held (f : TxFrame) (r : Reply) : f.orphan ≠ .reply r true := by
  cases f <;> simp [TxFrame.orphan]

/-- R172: after a link reset no entry is held, and a reply on the line goes on without its entry. -/
theorem State.lineBreak_inOrder {s : State} (h : s.link.InOrder) : s.lineBreak.link.InOrder := by
  unfold State.lineBreak
  split_ifs with held broken
  · exact h
  · exact h
  · unfold State.breakTaken
    dsimp only
    split_ifs
    · exact State.requestReset_inOrder _
    · refine ⟨⟨?_, ?_, ?_, ?_, fun r sends => ?_⟩, .hunting nofun ?_ ?_⟩
      case refine_5 =>
        simp only [State.withPins_link, State.withLink_link, State.linkReset, State.unsendNotices, State.withNotices_link,
          State.closeEdit_link, Link.afterLinkReset] at sends
        exact absurd sends (TxFrame.orphan_not_held _ r)
      all_goals simp [State.linkReset, State.unsendNotices, Link.afterLinkReset, countMark]

/-! ## Every command -/

/-- R177: the end of a reply frame. -/
theorem execReplyFrameEnd_inOrder {s t : State} (h : s.link.InOrder) (done : execReplyFrameEnd s = .next t) :
    t.link.InOrder := by
  unfold execReplyFrameEnd at done
  split at done
  · split_ifs at done
    · obtain rfl := Host.Outcome.next.inj done
      exact s.requestReset_inOrder
    · obtain rfl := Host.Outcome.next.inj done
      unfold State.replyEnds
      split_ifs
      · refine (State.serveHead_inOrder (s := s.txIdle.withQueue s.link.queue.tail) ⟨?_, ?_, fun e he => ?_, fun r sends => ?_⟩ { h.receiver with }).settle
        · exact (countMark_tail_le .execute s.link.queue).trans h.queue.execute
        · exact (countMark_tail_le .overrun s.link.queue).trans h.queue.overrun
        · exact h.queue.tailWaits e (List.mem_of_mem_tail he)
        · cases (show TxFrame.idle = .reply r true from sends)
      · exact Link.InOrder.settle (s := s.txIdle) ⟨⟨h.queue.execute, h.queue.overrun, h.queue.headServed, h.queue.tailWaits, nofun⟩,
          { h.receiver with }⟩
  · exact Host.Outcome.next.inj done ▸ h
  · exact Host.Outcome.next.inj done ▸ h

theorem execNoticeFrameEnd_inOrder {s t : State} (h : s.link.InOrder) (done : execNoticeFrameEnd s = .next t) :
    t.link.InOrder := by
  unfold execNoticeFrameEnd at done
  split at done
  · obtain rfl := Host.Outcome.next.inj done
    refine Link.InOrder.settle ?_
    dsimp only
    split_ifs <;> exact ⟨⟨h.queue.execute, h.queue.overrun, h.queue.headServed, h.queue.tailWaits, nofun⟩, { h.receiver with }⟩
  · exact Host.Outcome.next.inj done ▸ h
  · exact Host.Outcome.next.inj done ▸ h

/-- R174, R188: no work on the other blocks reaches the receiver or the request queue. -/
theorem State.Works.inOrder {s t : State} (h : s.Works t) (ok : s.link.InOrder) : t.link.InOrder := by
  have after : ∀ {d : Nat} {u : State}, (s.elapse d).Reports u → u.link.InOrder := fun told => told.inOrder (ok.elapse _)
  cases h with
  | nothing | startsAck => exact ok
  | elapses d => exact ok.elapse d
  | serves _ _ _ served => exact served.sameFrame.line.inOrder ok
  | ackExpires => exact ok.elapse _
  | lockoutExpires =>
    rename_i left _
    exact (ok.elapse left).congr rfl rfl rfl rfl .rfl
  | editIdleExpires => exact (State.closeEdit_link _ _).symm ▸ ok.elapse _
  | holdPin n asserted => exact (s.holdPinTaken_reports n asserted).inOrder ok
  | blankingExpires => exact after (State.blankingExpires_reports _ _)
  | stableExpires => exact after (State.stableExpires_reports _ _)
  | retryExpires => exact after (State.retryExpires_reports _ _)
  | rampTick => exact after (State.rampTick_reports _ _)
  | takesConfirmation => exact (s.takeConfirmation_reports _ _).inOrder ok
  | scanStep => exact (s.scanStep_reports _).inOrder ok
  | conversionCompletes => exact after (State.conversionCompletes_reports _ _)
  | pageCompletes =>
    unfold State.pageCompletes
    split_ifs <;> exact ok.elapse _

/-- R167 to R177: every command leaves the request queue and the receiver in order. -/
theorem exec_inOrder {i : Instr} {s t : State} (h : s.link.InOrder) (done : exec i s = .next t) : t.link.InOrder := by
  generalize outcome : exec i s = result at done
  cases outcome ▸ exec_meaning i s with
  | replyEnd => exact execReplyFrameEnd_inOrder h done
  | noticeEnd => exact execNoticeFrameEnd_inOrder h done
  | stays => exact Host.Outcome.next.inj done ▸ h
  | request => exact Host.Outcome.next.inj done ▸ h.receiveRequest _ _ _
  | byte => exact Host.Outcome.next.inj done ▸ h.byteReceived _
  | lastByte => exact Host.Outcome.next.inj done ▸ h.lastByteReceived _
  | framingError => exact Host.Outcome.next.inj done ▸ h.framingError
  | gapExpires left => exact Host.Outcome.next.inj done ▸ (h.elapse left).hunt
  | lineBreak => exact Host.Outcome.next.inj done ▸ State.lineBreak_inOrder h
  | breakEnd => exact Host.Outcome.next.inj done ▸ h.breakEnd
  | works work => exact Host.Outcome.next.inj done ▸ work.inOrder h
  | settles work => exact Host.Outcome.next.inj done ▸ (work.inOrder h).settle
  | supplyFails | resetPin => exact Host.Outcome.next.inj done ▸ linkAtReset_inOrder _
  | released => exact Host.Outcome.next.inj done ▸ h.congr rfl rfl rfl rfl .rfl
  | recallEnds =>
    have up := (State.recallEnds_reports (s.elapse s.toRecallEnd)).inOrder (h.elapse s.toRecallEnd)
    exact Host.Outcome.next.inj done ▸ up.settle

/-- Settles O54: a request is placed within the bounds and served once it is the head, and the receiver counts the frame it
collects. -/
theorem theLinkStaysBounded : Obligations.TheLinkStaysBounded := fun s t queue receiver stepped => by
  have inOrder : t.link.InOrder := by
    unfold step at stepped
    split at stepped
    · exact Host.Outcome.next.inj stepped ▸ Link.InOrder.elapse ⟨queue, receiver⟩ 1
    · rename_i _ rest _
      exact exec_inOrder (s := { s with pending := rest }) ⟨queue, receiver⟩ stepped
  exact ⟨inOrder.queue, inOrder.receiver⟩

end Sys2Proof.Machine

/-! Work on the four channels in turn (R8, R19, R27, R28). What one turn does is a `ChanOutcome`: how the channel is then seen, the
notices and the records. It depends on the rest of the part and on the channel alone, so the turns of several channels add up. -/

namespace Sys2Proof.Machine

/-! ## One turn -/

/-- What one turn of work does: how its channel is then seen, what is told, and what is recorded. -/
structure ChanOutcome where
  seen : ChanView
  told : List NoticeBody
  records : List FaultRecord

/-- R145: the records of trips appended one after another. -/
def FaultLog.appendAll (l : FaultLog) (records : List FaultRecord) : FaultLog := records.foldl FaultLog.append l

@[simp] theorem FaultLog.appendAll_nil (l : FaultLog) : l.appendAll [] = l := rfl

@[simp] theorem FaultLog.appendAll_cons (l : FaultLog) (r : FaultRecord) (rest : List FaultRecord) :
    l.appendAll (r :: rest) = (l.append r).appendAll rest := rfl

theorem FaultLog.appendAll_append (l : FaultLog) (first second : List FaultRecord) :
    l.appendAll (first ++ second) = (l.appendAll first).appendAll second := List.foldl_append

theorem FaultLog.appendAll_next (l : FaultLog) (records : List FaultRecord) :
    (l.appendAll records).next = l.next + BitVec.ofNat 16 records.length := by
  induction records generalizing l with
  | nil => simp
  | cons r rest ih =>
    rw [FaultLog.appendAll_cons, ih, List.length_cons, Nat.add_comm rest.length, BitVec.ofNat_add, ← BitVec.add_assoc]
    rfl

/-- Two logs with the same records and the same next trip number. -/
def FaultLog.Same (l m : FaultLog) : Prop := m.records = l.records ∧ m.next = l.next

theorem FaultLog.Same.append {l m : FaultLog} (h : l.Same m) (r : FaultRecord) : (l.append r).Same (m.append r) := by
  simp only [FaultLog.Same, FaultLog.append, h.1, h.2, and_self]

theorem FaultLog.Same.appendAll {l m : FaultLog} (h : l.Same m) (records : List FaultRecord) :
    (l.appendAll records).Same (m.appendAll records) := by
  induction records generalizing l m with
  | nil => exact h
  | cons r rest ih => exact ih (h.append r)

/-- Channel `n` alone has been worked on, with this outcome. -/
structure State.Acts (s t : State) (n : Chan) (o : ChanOutcome) : Prop where
  seen : t.view n = o.seen
  others : ∀ m, m ≠ n → t.view m = s.view m
  told : t.notices = s.notices.postAll o.told
  elsewhere : s.SameElsewhere t
  log : (s.log.appendAll o.records).Same t.log

/-- Channel `n` keeps what it has, but for the path it takes from the view `v`. -/
def State.pathOutcome (s : State) (n : Chan) (v : ChanView) (path : Path) : ChanOutcome :=
  ⟨s.follow n v path, s.noticesOf n path, []⟩

theorem State.MovesOnly.acts {s t : State} {n : Chan} {v : ChanView} {path : Path} (h : s.MovesOnly t n v path) :
    s.Acts t n (s.pathOutcome n v path) := ⟨h.moved, h.others, h.told, h.elsewhere, h.log⟩

section

variable (s : State) (n : Chan)

/-- Nothing is done. -/
def State.idleOutcome : ChanOutcome := ⟨s.view n, [], []⟩

theorem State.Acts.refl : s.Acts s n (s.idleOutcome n) := (State.MovesOnly.refl s n).acts

/-! ## Wait reasons (R8) -/

/-- R8: the outcome of a channel's evaluating its wait reasons. -/
def State.readyOutcome (cause : Cause) : ChanOutcome :=
  ⟨s.evaluated n (s.view n) cause, s.noticesOf n (s.readyPath n (s.channels.get n).state cause), []⟩

theorem State.evaluated_of_ready {v : ChanView} (qualifying : v.chan.state = .qualifying)
    (empty : (s.waitReasons n).isEmpty = true) (cause : Cause) :
    s.evaluated n v cause = s.follow n v [(.ramping, cause)] := by
  have path : s.readyPath n v.chan.state cause = [(.ramping, cause)] := if_pos ⟨qualifying, empty⟩
  rw [State.evaluated, path]
  rfl

theorem State.evaluated_of_waiting {v : ChanView} (qualifying : v.chan.state = .qualifying)
    (waits : (s.waitReasons n).isEmpty = false) (cause : Cause) :
    s.evaluated n v cause = { v with chan := { v.chan with wait := s.waitReasons n } } := by
  simp [State.evaluated, State.readyPath, qualifying, waits, State.follow]

theorem State.evaluated_elsewhere {v : ChanView} (other : v.chan.state ≠ .qualifying) (cause : Cause) :
    s.evaluated n v cause = v := by
  simp [State.evaluated, State.readyPath, other, State.follow]

theorem State.reevaluate_acts (cause : Cause) : s.Acts (s.reevaluate n cause) n (s.readyOutcome n cause) := by
  unfold State.reevaluate State.readyOutcome
  by_cases qualifying : (s.channels.get n).state = .qualifying
  · cases empty : (s.waitReasons n).isEmpty with
    | true =>
      rw [s.evaluated_of_ready n (v := s.view n) qualifying empty]
      simp only [qualifying, if_true, State.readyPath, empty, and_self]
      exact (s.transition_movesOnly n .ramping cause (by decide)).acts
    | false =>
      rw [s.evaluated_of_waiting n (v := s.view n) qualifying empty]
      simp only [qualifying, if_true, Bool.false_eq_true, if_false, State.readyPath, empty, and_false]
      exact ⟨s.view_setChan_self n _, fun m other => s.view_setChan_of_ne n m _ other, rfl, by constructor <;> simp [State.setWait],
        rfl, rfl⟩
  · rw [s.evaluated_elsewhere n (v := s.view n) qualifying]
    simp only [qualifying, if_false, State.readyPath, false_and]
    exact .refl s n

/-! ## Supply (R27) -/

/-- R27: the outcome of a change of the supply status. -/
def State.supplyOutcome : ChanOutcome :=
  if (s.channels.get n).state = .qualifying then s.readyOutcome n .ready
  else if s.seq.supplyOk then s.idleOutcome n else s.pathOutcome n (s.view n) (s.supplyLostPath n)

theorem State.supplyChanged_acts : s.Acts (s.supplyChanged n) n (s.supplyOutcome n) := by
  unfold State.supplyChanged State.supplyOutcome
  split_ifs
  · exact s.reevaluate_acts n .ready
  · exact .refl s n
  · exact (s.supplyLost_movesOnly n).acts

/-! ## Trips (R19 to R24) -/

/-- R22 to R24: where an action takes a channel. -/
def tripPath (kind : TripKind) (a : Action) : Path :=
  match a.leadsTo with
  | none => []
  | some st => [(st, tripCause kind)]

/-- R19 steps 3 and 4: channel `n` with its last trip number and its charge. -/
def State.chargedView (kind : TripKind) (number : BitVec 16) : ChanView :=
  { s.view n with chan := { s.channels.get n with
    lastTrip := some number, retryCount := countAfter (s.tripAction n kind) (s.channels.get n).retryCount } }

/-- R19: the outcome of a confirmed trip that is recorded under a number. -/
def State.tripOutcome (kind : TripKind) (number : BitVec 16) : ChanOutcome :=
  if (s.channels.get n).state.takesTrips then
    ⟨s.follow n (s.chargedView n kind number) (tripPath kind (s.tripAction n kind)),
      .trip number n kind (s.tripAction n kind) :: s.noticesOf n (tripPath kind (s.tripAction n kind)),
      [{ s.tripRecord n kind (s.tripAction n kind) with number := number }]⟩
  else s.idleOutcome n

/-- A trip leads to TRIPPED, LOCKED, DISABLED or nowhere, never to QUALIFYING. -/
theorem Action.leadsTo_ne_qualifying {a : Action} {st : ChState} (h : a.leadsTo = some st) : st ≠ .qualifying := by
  cases a <;> cases h <;> decide

theorem State.takeTrip_acts (kind : TripKind) : s.Acts (s.takeTrip n kind) n (s.tripOutcome n kind s.log.next) := by
  unfold State.takeTrip State.tripOutcome
  by_cases takes : (s.channels.get n).state.takesTrips = true
  · simp only [takes, if_true]
    have recorded : (s.recordTrip n kind (s.tripAction n kind)).view n = s.chargedView n kind s.log.next :=
      s.view_setChan_self n _
    have others : ∀ m, m ≠ n → (s.recordTrip n kind (s.tripAction n kind)).view m = s.view m :=
      fun m other => s.view_setChan_of_ne n m _ other
    have elsewhere : s.SameElsewhere (s.recordTrip n kind (s.tripAction n kind)) := by
      constructor <;> simp [State.recordTrip]
    cases leads : (s.tripAction n kind).leadsTo with
    | none =>
      simp only [tripPath, leads]
      exact ⟨recorded, others, rfl, elsewhere.trans (by constructor <;> simp), rfl, rfl⟩
    | some st =>
      have moved := (s.recordTrip n kind (s.tripAction n kind)).transition_movesOnly n st (tripCause kind)
        (Action.leadsTo_ne_qualifying leads)
      simp only [tripPath, leads]
      refine ⟨?_, fun m other => (moved.others m other).trans (others m other), ?_,
        (elsewhere.trans moved.elsewhere).trans (by constructor <;> simp [State.transition]), moved.log⟩
      · exact moved.moved.trans (by rw [recorded, elsewhere.follow])
      · simp [State.noticesOf, pathNotices, Action.leadsTo_ne_qualifying leads]
        rfl
  · simpa [takes] using State.Acts.refl s n

end

/-! ## Several turns -/

/-- Work on one channel has this outcome, given the number its record takes, and the outcome is the channel's own: the turns of
other channels do not alter it, and whether it is recorded does not depend on the number. -/
structure HasOutcome (work : State → Chan → State) (outcome : State → Chan → BitVec 16 → ChanOutcome)
    (trips : State → Chan → Bool) : Prop where
  acts : ∀ (s : State) (n : Chan), s.Acts (work s n) n (outcome s n s.log.next)
  depends : ∀ (s t : State) (n : Chan) (k : BitVec 16), s.SameElsewhere t → t.view n = s.view n → outcome t n k = outcome s n k
  counts : ∀ (s : State) (n : Chan) (k : BitVec 16), (outcome s n k).records.length = if trips s n then 1 else 0

/-- R145: the trip number that channel `n` finds where the channels of `turns` before it have taken theirs. -/
def numberAfter (first : BitVec 16) (trips : Chan → Bool) (turns : List Chan) (n : Chan) : BitVec 16 :=
  first + BitVec.ofNat 16 ((turns.takeWhile fun m => decide (m ≠ n)).filter trips).length

theorem numberAfter_self (first : BitVec 16) (trips : Chan → Bool) (rest : List Chan) (n : Chan) :
    numberAfter first trips (n :: rest) n = first := by
  simp [numberAfter]

theorem numberAfter_cons (first : BitVec 16) (trips : Chan → Bool) (rest : List Chan) {m n : Chan} (h : m ≠ n) :
    numberAfter first trips (m :: rest) n = numberAfter (first + BitVec.ofNat 16 (if trips m then 1 else 0)) trips rest n := by
  cases taken : trips m <;> simp [numberAfter, h, taken]
  rw [Nat.add_comm, BitVec.ofNat_add, ← BitVec.add_assoc]

/-- R145: in ascending order these are the numbers of `numberAmong`. -/
theorem numberAfter_allChans (first : BitVec 16) (trips : Chan → Bool) (n : Chan) :
    numberAfter first trips allChans n = numberAmong first trips n := by
  match n with
  | 0 | 1 | 2 | 3 => rfl

/-- The turns of a list of channels: each channel has its outcome as if it were alone, but for the number its record takes. -/
theorem HasOutcome.foldl {work : State → Chan → State} {outcome : State → Chan → BitVec 16 → ChanOutcome}
    {trips : State → Chan → Bool} (w : HasOutcome work outcome trips) :
    ∀ (turns : List Chan) (s : State), turns.Nodup →
      let own := fun n => outcome s n (numberAfter s.log.next (trips s) turns n)
      (∀ n, (turns.foldl work s).view n = if n ∈ turns then (own n).seen else s.view n)
      ∧ (turns.foldl work s).notices = s.notices.postAll (turns.flatMap fun n => (own n).told)
      ∧ s.SameElsewhere (turns.foldl work s)
      ∧ (s.log.appendAll (turns.flatMap fun n => (own n).records)).Same (turns.foldl work s).log := by
  intro turns
  induction turns with
  | nil => intro s _; exact ⟨fun n => by simp, rfl, .refl s, rfl, rfl⟩
  | cons a rest ih =>
    intro s distinct
    dsimp only
    obtain ⟨notLater, distinct⟩ := List.nodup_cons.mp distinct
    have turn := w.acts s a
    obtain ⟨views, notices, elsewhere, log⟩ := ih (work s a) distinct
    dsimp only at views notices log
    have other : ∀ n ∈ rest, n ≠ a := fun n later same => notLater (same ▸ later)
    have next : (work s a).log.next = s.log.next + BitVec.ofNat 16 (if trips s a then 1 else 0) := by
      rw [turn.log.2, FaultLog.appendAll_next, w.counts]
    have alike : ∀ n, n ≠ a → trips (work s a) n = trips s n := fun n hn => by
      have same := w.depends s (work s a) n 0 turn.elsewhere (turn.others n hn)
      have counts := congrArg (fun o => o.records.length) same
      simp only [w.counts] at counts
      cases ht : trips (work s a) n <;> cases hs : trips s n <;> simp [ht, hs] at counts <;> rfl
    have sameNumber : ∀ n ∈ rest,
        numberAfter (work s a).log.next (trips (work s a)) rest n = numberAfter s.log.next (trips s) (a :: rest) n := by
      intro n later
      rw [numberAfter_cons _ _ _ (Ne.symm (other n later)), next]
      unfold numberAfter
      rw [List.filter_congr fun m hm => alike m (other m (List.takeWhile_subset _ hm))]
    have own : ∀ n ∈ rest, outcome (work s a) n (numberAfter (work s a).log.next (trips (work s a)) rest n)
        = outcome s n (numberAfter s.log.next (trips s) (a :: rest) n) := fun n later => by
      rw [sameNumber n later, w.depends s _ n _ turn.elsewhere (turn.others n (other n later))]
    refine ⟨fun n => ?_, ?_, turn.elsewhere.trans elsewhere, ?_⟩
    · rw [List.foldl_cons, views n]
      by_cases later : n ∈ rest
      · simp only [later, if_true, List.mem_cons, or_true, own n later]
      · by_cases now : n = a
        · subst now
          simp only [later, if_false, List.mem_cons, true_or, if_true, numberAfter_self, turn.seen]
        · simp only [later, if_false, List.mem_cons, now, or_self, turn.others n now]
    · rw [List.foldl_cons, notices, turn.told, List.flatMap_cons, numberAfter_self, NoticeQueue.postAll_append]
      congr 1
      exact List.flatMap_congr fun n later => by rw [own n later]
    · rw [List.foldl_cons, List.flatMap_cons, numberAfter_self, FaultLog.appendAll_append]
      rw [List.flatMap_congr fun n later => by rw [own n later]] at log
      obtain ⟨records, number⟩ := turn.log.appendAll
        (rest.flatMap fun n => (outcome s n (numberAfter s.log.next (trips s) (a :: rest) n)).records)
      exact ⟨log.1.trans records, log.2.trans number⟩

/-- R8, R27, R28: an effect on each channel, ascending: each has its outcome as if it were alone. -/
theorem HasOutcome.forEachChan {work : State → Chan → State} {outcome : State → Chan → BitVec 16 → ChanOutcome}
    {trips : State → Chan → Bool} (w : HasOutcome work outcome trips) (s : State) :
    let own := fun n => outcome s n (numberAmong s.log.next (trips s) n)
    (∀ n, (forEachChan work s).view n = (own n).seen)
    ∧ (forEachChan work s).notices = s.notices.postAll (allChans.flatMap fun n => (own n).told)
    ∧ s.SameElsewhere (forEachChan work s)
    ∧ (s.log.appendAll (allChans.flatMap fun n => (own n).records)).Same (forEachChan work s).log := by
  have all := w.foldl allChans s (by decide)
  simp only [numberAfter_allChans, mem_allChans, if_true] at all
  exact all

end Sys2Proof.Machine

/-! The events of the channels (R3, R10 to R12, R25, R55 to R57, R73): the expiries of their timers, the ticks of their Drive
Stages, a HOLD pin's change, and a pending confirmation. Each is a path from a view whose own values have changed. -/

namespace Sys2Proof.Machine

/-! ## Paths -/

section

variable (s : State) (n : Chan)

@[simp] theorem State.follow_nil (v : ChanView) : s.follow n v [] = v := rfl

/-- No move touches what R1 keeps beside the state: the retry count. -/
@[simp] theorem State.follow_retryCount (v : ChanView) (path : Path) :
    (s.follow n v path).chan.retryCount = v.chan.retryCount := by
  induction path generalizing v with
  | nil => rfl
  | cons e rest ih => exact (ih _).trans rfl

/-- R7: a channel that enters QUALIFYING is then there or in RAMPING. -/
theorem State.follow_qualifyPath_state (v : ChanView) (cause : Cause) :
    (s.follow n v (s.qualifyPath n cause)).chan.state = if (s.waitReasons n).isEmpty then .ramping else .qualifying := by
  unfold State.qualifyPath
  split <;> rfl

/-! ## A Drive Stage's own values (R56, R57) -/

/-- A Drive Stage's own values change before its channel moves. -/
theorem State.MovesOnly.of_setDrive {s t : State} {n : Chan} {d : DriveStage} {v : ChanView} {p : Path}
    (h : (s.setDrive n d).MovesOnly t n v p) : s.MovesOnly t n v p where
  moved := h.moved
  others := fun m other => (h.others m other).trans (s.view_setDrive_of_ne n m d other)
  told := h.told
  elsewhere := State.SameElsewhere.trans (by constructor <;> simp) h.elsewhere
  log := h.log

theorem State.setDrive_movesOnly (d : DriveStage) : s.MovesOnly (s.setDrive n d) n { s.view n with drive := d } [] :=
  .of_setDrive (s.view_setDrive_self n d ▸ State.MovesOnly.refl _ n)

theorem State.setChan_movesOnly {c : Channel} (h : c.state = (s.channels.get n).state) :
    s.MovesOnly (s.setChan n c) n { s.view n with chan := c } [] :=
  .of_setChan (s.view_setChan_self n c ▸ State.MovesOnly.refl _ n) h

/-- R55 to R57: the Drive Stage of channel `n` after its tick. -/
def State.tickDrive : DriveStage :=
  let d := s.drive.get n
  match d.mode with
  | .track => ⟨stepToward d.output (s.targets.get n) (s.prof n).slew, .track, .running Config.tickPeriod⟩
  | .wind =>
      if stepToward d.output (s.prof n).park (s.prof n).slew = (s.prof n).park then ⟨(s.prof n).park, .parked, .stopped⟩
      else ⟨stepToward d.output (s.prof n).park (s.prof n).slew, .wind, .running Config.tickPeriod⟩
  | .parked | .undriven => d

/-- R11, R16: where the tick's report takes channel `n`. -/
def State.tickPath : Path :=
  let d := s.drive.get n
  match d.mode with
  | .track =>
      if stepToward d.output (s.targets.get n) (s.prof n).slew = s.targets.get n
          ∧ (s.channels.get n).state = .ramping ∧ (s.channels.get n).blanking = .expired then [(.active, .settled)]
      else []
  | .wind =>
      if stepToward d.output (s.prof n).park (s.prof n).slew = (s.prof n).park
          ∧ (s.channels.get n).state = .windingDown then [(.disabled, .parked)]
      else []
  | .parked | .undriven => []

/-- R11, R55 to R57: a tick moves the output, and its report may move the channel. -/
theorem State.rampTick_movesOnly :
    s.MovesOnly (s.rampTick n) n { s.view n with drive := s.tickDrive n } (s.tickPath n) := by
  have idle : s.MovesOnly s n { s.view n with drive := s.drive.get n } [] := State.MovesOnly.refl s n
  have moves : ∀ (d : DriveStage) (st : ChState) (cause : Cause), st ≠ .qualifying →
      s.MovesOnly ((s.setDrive n d).transition n st cause) n { s.view n with drive := d } [(st, cause)] :=
    fun d st cause h => .of_setDrive (s.view_setDrive_self n d ▸ State.transition_movesOnly _ n st cause h)
  unfold State.rampTick State.tickDrive State.tickPath
  dsimp only
  cases mode : (s.drive.get n).mode
  case parked | undriven => exact idle
  case track =>
    simp only [State.trackTick, State.trackReport, State.setDrive_drive, Quad.get_set_self, State.setDrive_targets,
      State.setDrive_channels]
    split_ifs
    · exact moves _ .active .settled (by decide)
    · exact s.setDrive_movesOnly n _
  case wind =>
    simp only [State.windTick, State.arriveParked]
    by_cases arrives : stepToward (s.drive.get n).output (s.prof n).park (s.prof n).slew = (s.prof n).park
    · simp only [arrives, if_true, true_and]
      split_ifs
      · exact moves _ .disabled .parked (by decide)
      · exact s.setDrive_movesOnly n _
    · simp only [arrives, if_false, false_and]
      exact s.setDrive_movesOnly n _

/-! ## Timers (R10, R12, R25) -/

/-- R10: channel `n` with its blanking marked expired. -/
def State.unblanked : ChanView := { s.view n with chan := { s.channels.get n with blanking := .expired } }

theorem State.blankingExpires_movesOnly : s.MovesOnly (s.blankingExpires n) n (s.unblanked n)
    (if (s.drive.get n).output = s.targets.get n then [(.active, .settled)] else []) := by
  unfold State.blankingExpires State.unblanked
  dsimp only
  split_ifs
  · have settles := (s.setChan n { s.channels.get n with blanking := .expired }).transition_movesOnly n .active .settled
      (by decide)
    rw [s.view_setChan_self] at settles
    exact settles.of_setChan rfl
  · exact s.setChan_movesOnly n rfl

theorem State.stableExpires_movesOnly : s.MovesOnly (s.stableExpires n) n
    { s.view n with chan := { s.channels.get n with retryCount := 0, stable := .stopped } } [] :=
  s.setChan_movesOnly n rfl

end

theorem Channel.elapse_state (c : Channel) (d : Nat) : (c.elapse d).state = c.state := rfl

/-- Settles O25: the blanking is marked expired first; LF samples count in RAMPING from then on, and in ACTIVE. -/
theorem blankingExpiryMarksOrSettles : Obligations.BlankingExpiryMarksOrSettles := by
  intro s n left ramping timer
  have moved := (s.elapse left).blankingExpires_movesOnly n
  simp only [State.elapse_drive, Quad.get_map, State.elapse_targets] at moved
  refine ⟨_, ?_, moved, ?_⟩
  · simp only [exec, execBlankingTimerExpiry, ramping, timer]
  · have seen := congrArg ChanView.chan moved.moved
    simp only [State.view] at seen
    rw [seen]
    split_ifs
    · rfl
    · simp only [State.follow_nil, State.unblanked, State.elapse_channels, Quad.get_map, Channel.elapse_state, ramping]
      rfl

/-- Settles O26: the stable timer's expiry changes the count and the timer; the retry timer's leads through QUALIFYING. -/
theorem stableAndRetryTimersExpire : Obligations.StableAndRetryTimersExpire := by
  refine fun s n left => ⟨fun active timer => ?_, fun tripped timer => ?_⟩
  · simp only [exec, execStableTimerExpiry, active, timer]
    rfl
  · have moved := (s.elapse left).enterQualifying_movesOnly n .retryDue
    have seen := congrArg ChanView.chan moved.moved
    refine ⟨_, ?_, moved, ?_, ?_⟩
    · simp only [exec, execRetryTimerExpiry, tripped, timer]
      rfl
    · have count := congrArg Channel.retryCount seen
      rw [State.follow_retryCount] at count
      simpa [State.view, Channel.elapse] using count
    · have state := congrArg Channel.state seen
      rw [State.follow_qualifyPath_state] at state
      simp only [State.view] at state
      simp only [State.fastOff, state]
      split <;> rfl

/-- R56, R57: the step by the direction of the goal. -/
theorem stepToward_eq (output goal slew : Nat) : stepToward output goal slew =
    if output ≤ goal then output + min slew (goal - output) else output - min slew (output - goal) := by
  unfold stepToward
  split_ifs <;> omega

/-- Settles O27: a tick in TRACK. -/
theorem trackTicksStepTowardTheTarget : Obligations.TrackTicksStepTowardTheTarget := by
  intro s n left track timer
  have moved := (s.elapse left).rampTick_movesOnly n
  have blanking : ((s.channels.get n).blanking.elapse left = .expired) = ((s.channels.get n).blanking = .expired) := by
    cases (s.channels.get n).blanking <;> simp [BlankTimer.elapse]
  simp only [State.tickDrive, State.tickPath, State.elapse_drive, Quad.get_map, track, stepToward_eq, State.elapse_targets,
    State.elapse_channels, Channel.elapse, blanking] at moved
  exact ⟨_, by simp only [exec, execRampTick, timer], moved⟩

/-- Settles O28: a tick in WIND, short of the park code or at it. -/
theorem windTicksStepTowardPark : Obligations.WindTicksStepTowardPark := by
  refine fun s n => ⟨fun left wind timer => ?_, fun stopped => ?_⟩
  · have moved := (s.elapse left).rampTick_movesOnly n
    simp only [State.tickDrive, State.tickPath, State.elapse_drive, Quad.get_map, wind, stepToward_eq,
      State.elapse_channels, Channel.elapse] at moved
    exact ⟨_, by simp only [exec, execRampTick, timer], moved⟩
  · simp only [exec, execRampTick, stopped]

/-! ## HOLD pins (R3) -/

/-- Settles O24: the noted level changes nothing that hold's rules consult but the effectiveness itself. -/
theorem holdPinsActOnEffectiveness : Obligations.HoldPinsActOnEffectiveness := by
  intro s n asserted noted acts
  refine ⟨fun same => ?_, fun changes held => ?_, fun changes running => ?_⟩
  · simp only [exec, execHoldPinChange, same, if_true]
  · simp only [exec, execHoldPinChange, changes, if_false, State.holdPinTaken, held]
    rfl
  · have effective : noted.holdEffective n = (asserted || (s.channels.get n).softHold) := by
      simp [State.holdEffective, noted]
    have moved := noted.holdChanged_movesOnly n (s.holdEffective n)
    rw [effective] at moved
    refine ⟨_, ?_, moved⟩
    simp only [exec, execHoldPinChange, changes, if_false, State.holdPinTaken, running, if_true]
    rfl

/-! ## Entries into states -/

/-- R74: the tallies of the kinds that are counted no longer are 0. -/
theorem Tallies.onChange_get (t : Tallies) (before after : FastKind → Bool) (k : FastKind) :
    (t.onChange before after).get k = if before k = true ∧ after k = false then 0 else t.get k := by
  cases k <;> simp [Tallies.onChange, Tallies.get]

theorem Tallies.onChange_armed (t : Tallies) (before after : FastKind → Bool) :
    (t.onChange before after).armed = if before .lf = true ∧ after .lf = false then true else t.armed := by
  simp [Tallies.onChange]

theorem freshMark_iff (r : PointRecord) (now : W32) : freshMark r now = true ↔ r.valid = true ∧ r.uptime = now := by
  simp [freshMark]

theorem freshMarks_iff (points : PerChanPoint PointRecord) (now : W32) (k : ChanPoint) :
    (PerChanPoint.mk (freshMark points.cur now) (freshMark points.fwd now) (freshMark points.ref now)).get k = true
      ↔ (points.get k).valid = true ∧ (points.get k).uptime = now := by
  cases k <;> exact freshMark_iff _ _

/-- R53, R58: a Drive Stage that stands in the mode of its channel's state is parked by the entry into a parked state. -/
theorem DriveStage.Ok.parks {d : DriveStage} {before st : ChState} {park : Nat} (h : d.Ok before park)
    (parked : st.driveMode = .parked) : d.orderFor st park = ⟨park, .parked, .stopped⟩ := by
  have order : d.orderFor st park = d.parkAtOnce park := by cases st <;> simp [ChState.driveMode] at parked <;> rfl
  rw [order]
  obtain ⟨output, mode, tick⟩ := d
  cases mode with
  | undriven =>
    have modes : DriveMode.undriven = before.driveMode := h.mode
    cases before <;> cases modes
  | parked =>
    have output : output = park := h.parked rfl
    have tick : tick = .stopped := by
      by_contra runs
      have driven := h.tick.mp runs
      simp at driven
    simp [DriveStage.parkAtOnce, output, tick]
  | track | wind => rfl

/-- Settles O29: each part of the entry, field by field. -/
theorem enteringAStateStartsItsTimersAndDrive : Obligations.EnteringAStateStartsItsTimersAndDrive := by
  intro v p now w st drive e blanking ends
  refine ⟨?chan, ?fromPark, ?fromWind, ?toWind, fun active => ?active, fun parked => ?parked, fun k => ?tallies, ?armed,
    fun leaves => if_pos leaves, fun stays => if_neg stays, fun ramping => ⟨if_pos ramping, fun k => ?marks⟩,
    fun other => ⟨if_neg other, if_neg other⟩⟩
  case chan => simp [e, blanking, ChanView.enters, Channel.enter, blankingFor, retryFor, stableFor, Nat.mul_comm]
  case fromPark =>
    rintro rfl mode
    simp [e, ChanView.enters, DriveStage.orderFor, DriveStage.track, mode, Config.tickPeriod]
  case fromWind =>
    rintro rfl mode
    simp [e, ChanView.enters, DriveStage.orderFor, DriveStage.track, mode]
  case toWind =>
    rintro rfl mode
    simp [e, ChanView.enters, DriveStage.orderFor, DriveStage.windDown, mode]
  case active =>
    subst active
    rfl
  case parked =>
    have order : e.drive = ⟨p.park, .parked, .stopped⟩ := drive.parks parked
    rw [order]
    exact ⟨rfl, rfl, rfl⟩
  case tallies => exact v.tallies.onChange_get _ _ k
  case armed => exact v.tallies.onChange_armed _ _
  case marks =>
    have marks : e.marks = ⟨freshMark v.points.cur now, freshMark v.points.fwd now, freshMark v.points.ref now⟩ := if_pos ramping
    rw [marks]
    exact freshMarks_iff v.points now k

/-! ## Confirmed trips (R19) -/

/-- R19, R20, R24: the action, by the channel's state, the policy, and the retry count against its budget. -/
theorem chooseAction_eq (st : ChState) (policy : Policy) (count budget : Nat) :
    chooseAction st policy count budget = if st = .windingDown then .stop
      else match policy with
        | .report => .report
        | .retry => if count < budget then .retry else .lock
        | .latch => .lock := rfl

theorem tripPath_eq (kind : TripKind) (a : Action) : tripPath kind a = match a with
    | .retry => [(.tripped, if kind = .ot then .thermal else .trip)]
    | .lock => [(.locked, if kind = .ot then .thermal else .trip)]
    | .stop => [(.disabled, if kind = .ot then .thermal else .trip)]
    | .report => [] := by
  cases a <;> rfl

/-- R31: after a trip FASTOFF stands exactly where the action was RETRY or LOCK. -/
theorem follow_tripPath_isFaulted (s : State) (n : Chan) {v : ChanView} (takes : v.chan.state.takesTrips = true)
    (kind : TripKind) (a : Action) :
    (s.follow n v (tripPath kind a)).chan.state.isFaulted = true ↔ a = .retry ∨ a = .lock := by
  cases a with
  | retry | lock | stop => simp [tripPath, Action.leadsTo, State.follow, ChanView.enters, Channel.enter, ChState.isFaulted]
  | report =>
    have driven : v.chan.state.isFaulted = false := by cases h : v.chan.state <;> simp [h, ChState.takesTrips] at takes <;> rfl
    simp [tripPath, Action.leadsTo, driven]

/-- R145: a log that takes a record. -/
theorem FaultLog.append_records (l : FaultLog) (r : FaultRecord) :
    (l.append r).records = (if 24 ≤ l.records.length then l.records.tail else l.records) ++ [r] := rfl

/-- Settles O30: the confirmation is no longer pending, and the trip has the outcome of R19 on what then stands. -/
theorem aConfirmedTripIsRecordedAndActedOn : Obligations.AConfirmedTripIsRecordedAndActedOn := by
  intro s n k c taken marks points a count path
  have cleared : (s.setPendingTrip n k false).channels.get n = taken := by simp [State.setPendingTrip, taken, c]
  refine ⟨fun idle => ?_, fun running waiting discards => ?_, fun running waiting takes => ?_⟩
  · have none_pending : ¬(s.startup.phase = .running ∧ (s.channels.get n).confirmations.has k = true) := by
      rcases idle with held | absent
      · exact fun h => held h.1
      · exact fun h => Bool.false_ne_true (absent.symm.trans h.2)
    simp only [exec, execConfirmedTrip, none_pending, if_false]
  · have stays : (s.setPendingTrip n k false).takeTrip n k = s.setPendingTrip n k false := by
      have : taken.state.takesTrips = false := discards
      simp only [State.takeTrip, cleared, this, Bool.false_eq_true, if_false]
    simp only [exec, execConfirmedTrip, running, true_and]
    rw [if_pos (show (s.channels.get n).confirmations.has k = true from waiting), State.takeConfirmation, stays]
    rfl
  · have outcome := (s.setPendingTrip n k false).takeTrip_acts n k
    have action : (s.setPendingTrip n k false).tripAction n k = a := by
      simp only [State.tripAction, cleared, chooseAction_eq]
      rfl
    have view : (s.setPendingTrip n k false).view n = { s.view n with chan := taken } := s.view_setChan_self n _
    have charged : (s.setPendingTrip n k false).chargedView n k s.log.next
        = { s.view n with chan := { taken with lastTrip := some s.log.next, retryCount := count } } := by
      simp only [State.chargedView, cleared, action, view]
      rfl
    have takes' : ((s.setPendingTrip n k false).channels.get n).state.takesTrips = true := cleared ▸ takes
    have told : (s.setPendingTrip n k false).noticesOf n (tripPath k a) = s.noticesOf n path := by
      simp only [State.noticesOf, cleared, tripPath_eq]
      rfl
    have elsewhere : s.SameElsewhere (s.setPendingTrip n k false) := by constructor <;> simp [State.setPendingTrip]
    simp only [State.tripOutcome, takes', if_true, action] at outcome
    refine ⟨(s.setPendingTrip n k false).takeTrip n k, ?_, ?_, outcome.log.2, ?_, fun m other => ?_, ?_,
      elsewhere.trans outcome.elsewhere, ?_⟩
    · simp only [exec, execConfirmedTrip, running, true_and]
      rw [if_pos (show (s.channels.get n).confirmations.has k = true from waiting)]
      rfl
    · rw [outcome.log.1, FaultLog.appendAll_cons, FaultLog.appendAll_nil, FaultLog.append_records]
      simp only [State.tripRecord, State.snapshot, cleared, Bool.and_eq_true, and_assoc]
      rfl
    · rw [outcome.seen]
      dsimp only
      rw [show (s.setPendingTrip n k false).log.next = s.log.next from rfl, charged, tripPath_eq]
      rfl
    · exact (outcome.others m other).trans (s.view_setChan_of_ne n m _ other)
    · rw [outcome.told, told]
      rfl
    · have seen := congrArg (fun v => v.chan.state.isFaulted) outcome.seen
      refine (Bool.eq_iff_iff.mp seen).trans (follow_tripPath_isFaulted _ n ?_ k a)
      exact takes'

end Sys2Proof.Machine

/-! What every work keeps about the channels. A channel takes a path only where R4 to R27 let it (`PathAllowed`); a property that
such moves keep, and the few works that are more than a move, is kept by every step (`ChannelLaw`). With it the invariant of the
channels and their Drive Stages. -/

namespace Sys2Proof.Machine

/-! ## Which states follow each other -/

/-- R4 to R27: whether a channel may go from one state to another; `ready` says that its wait reasons are none. -/
def ChState.MayEnter (ready : Bool) (before after : ChState) : Prop :=
  match after with
  | .ramping => ready = true ∨ before = .windingDown
  | .active => before = .ramping
  | .windingDown => before = .ramping ∨ before = .active
  | .tripped => before.takesTrips = true
  | .disabled | .qualifying | .held | .locked => True

/-- Each entry of a path may follow the state before it. -/
def PathAllowed (ready : Bool) : ChState → Path → Prop
  | _, [] => True
  | before, (st, _) :: rest => before.MayEnter ready st ∧ PathAllowed ready st rest

/-- The values of a channel that a work may set before its channel moves: a count lowered, a timer stopped, blanking expired, and
what no invariant of the channels reads. -/
structure ChanView.Prepares (v w : ChanView) : Prop where
  state : w.chan.state = v.chan.state
  wait : w.chan.wait = v.chan.wait ∨ v.chan.state = .qualifying
  count : w.chan.retryCount ≤ v.chan.retryCount
  blanking : w.chan.blanking = v.chan.blanking
    ∨ (v.chan.state = .ramping ∧ v.chan.blanking ≠ .stopped ∧ w.chan.blanking = .expired)
  retry : w.chan.retry = v.chan.retry
  stable : w.chan.stable = v.chan.stable ∨ w.chan.stable = .stopped
  drive : w.drive = v.drive
  tallies : w.tallies = v.tallies

theorem ChanView.Prepares.refl (v : ChanView) : v.Prepares v := ⟨rfl, .inl rfl, le_rfl, .inl rfl, rfl, .inl rfl, rfl, rfl⟩

section

variable (s : State) (n : Chan)

/-- The wait reasons of channel `n` are none. -/
def State.ready : Bool := (s.waitReasons n).isEmpty

theorem State.qualifyPath_allowed (before : ChState) (cause : Cause) :
    PathAllowed (s.ready n) before (s.qualifyPath n cause) := by
  unfold State.qualifyPath
  split_ifs with ready
  · exact ⟨trivial, .inl ready, trivial⟩
  · exact ⟨trivial, trivial⟩

theorem State.wantedPath_allowed (before : ChState) (cause : Cause) : PathAllowed (s.ready n) before (s.wantedPath n cause) := by
  unfold State.wantedPath
  split_ifs
  · exact ⟨trivial, trivial⟩
  · exact s.qualifyPath_allowed n before cause

theorem State.enablePath_allowed : PathAllowed (s.ready n) (s.channels.get n).state (s.enablePath n) := by
  unfold State.enablePath
  cases (s.channels.get n).state
  case disabled => exact s.wantedPath_allowed n _ _
  case windingDown => exact ⟨.inr rfl, trivial⟩
  all_goals exact trivial

theorem State.disablePath_allowed : PathAllowed (s.ready n) (s.channels.get n).state (s.disablePath n) := by
  unfold State.disablePath
  cases (s.channels.get n).state
  case ramping => exact ⟨.inl rfl, trivial⟩
  case active => exact ⟨.inr rfl, trivial⟩
  case windingDown | disabled => exact trivial
  all_goals exact ⟨trivial, trivial⟩

theorem State.clearPath_allowed : PathAllowed (s.ready n) (s.channels.get n).state (s.clearPath n) := by
  unfold State.clearPath
  cases (s.channels.get n).state
  case locked => exact s.wantedPath_allowed n _ _
  case tripped => exact s.qualifyPath_allowed n _ _
  all_goals exact trivial

theorem State.holdPath_allowed (before : ChState) : PathAllowed (s.ready n) before (s.holdPath n) := by
  unfold State.holdPath
  cases (s.channels.get n).state
  case disabled | held => exact trivial
  case locked =>
    dsimp only
    split_ifs
    · exact ⟨trivial, trivial⟩
    · exact trivial
  all_goals exact ⟨trivial, trivial⟩

theorem State.holdChangePath_allowed (before : ChState) (was now : Bool) :
    PathAllowed (s.ready n) before (s.holdChangePath n was now).1 := by
  unfold State.holdChangePath State.releasePath
  split_ifs
  · exact s.holdPath_allowed n before
  · exact s.qualifyPath_allowed n before _
  · exact trivial
  · exact trivial

theorem State.supplyLostPath_allowed : PathAllowed (s.ready n) (s.channels.get n).state (s.supplyLostPath n) := by
  unfold State.supplyLostPath
  cases (s.channels.get n).state
  case ramping | active => exact s.qualifyPath_allowed n _ _
  case windingDown => exact ⟨trivial, trivial⟩
  all_goals exact trivial

theorem tripPath_allowed {st : ChState} (takes : st.takesTrips = true) (ready : Bool) (kind : TripKind) (a : Action) :
    PathAllowed ready st (tripPath kind a) := by
  cases a with
  | retry => exact ⟨takes, trivial⟩
  | lock | stop => exact ⟨trivial, trivial⟩
  | report => exact trivial

end

/-! ## Invariants of one channel -/

/-- What is said of channel `n` of a state as a view shows it, and what the works that move channels do not break. -/
structure ChanInvariant (G : Profile → Prop) (I : State → Chan → ChanView → Prop) : Prop where
  depends : ∀ {s t : State} {n : Chan} {v : ChanView}, s.SameElsewhere t → I s n v → I t n v
  enters : ∀ {s : State} {n : Chan} {v : ChanView} {st : ChState}, G s.store.active → v.chan.state.MayEnter (s.ready n) st →
    I s n v → I s n (v.enters (s.prof n) s.startup.uptime (s.waitReasons n) st)
  prepares : ∀ {s : State} {n : Chan} {v w : ChanView}, G s.store.active → v.Prepares w → I s n v → I s n w

section

variable {G : Profile → Prop} {I : State → Chan → ChanView → Prop} {s t : State} {n : Chan} {v : ChanView}

theorem ChanInvariant.follow (inv : ChanInvariant G I) (good : G s.store.active) {path : Path}
    (allowed : PathAllowed (s.ready n) v.chan.state path) (holds : I s n v) : I s n (s.follow n v path) := by
  induction path generalizing v with
  | nil => exact holds
  | cons e rest ih => exact ih allowed.2 (inv.enters good allowed.1 holds)

theorem ChanInvariant.acts (inv : ChanInvariant G I) {o : ChanOutcome} (acts : s.Acts t n o) (own : I s n o.seen)
    (all : ∀ m, I s m (s.view m)) : ∀ m, I t m (t.view m) := fun m => by
  refine inv.depends acts.elsewhere ?_
  by_cases this : m = n
  · subst this
    exact acts.seen ▸ own
  · exact acts.others m this ▸ all m

theorem ChanInvariant.moves (inv : ChanInvariant G I) (good : G s.store.active) {path : Path} (moved : s.MovesOnly t n v path)
    (prepared : (s.view n).Prepares v) (allowed : PathAllowed (s.ready n) (s.channels.get n).state path)
    (all : ∀ m, I s m (s.view m)) : ∀ m, I t m (t.view m) := by
  have from_v : PathAllowed (s.ready n) v.chan.state path := prepared.state ▸ allowed
  exact inv.acts moved.acts (inv.follow good from_v (inv.prepares good prepared (all n))) all

end

/-! ## Laws of the channels -/

/-- The blocks that the channels consult and are, but for their time, are the same. -/
structure State.SameChannels (s t : State) : Prop where
  channels : t.channels = s.channels
  targets : t.targets = s.targets
  drive : t.drive = s.drive
  scanner : t.scanner = s.scanner
  seq : t.seq = s.seq
  active : t.store.active = s.store.active

theorem State.LineOnly.sameChannels {s t : State} (h : s.LineOnly t) : s.SameChannels t :=
  ⟨h.channels, h.targets, h.drive, h.scanner, h.seq, by rw [h.store]⟩

theorem State.closeEdit_sameChannels (s : State) (c : EditCause) : s.SameChannels (s.closeEdit c) := by
  unfold State.closeEdit
  split <;> exact ⟨rfl, rfl, rfl, rfl, rfl, rfl⟩

theorem State.SameChannels.trans {s t u : State} (h : s.SameChannels t) (k : t.SameChannels u) : s.SameChannels u :=
  ⟨k.channels.trans h.channels, k.targets.trans h.targets, k.drive.trans h.drive, k.scanner.trans h.scanner,
    k.seq.trans h.seq, k.active.trans h.active⟩

/-- The running channels are usable and covered under a profile (R120). -/
def State.RunsUnder (s : State) (p : Profile) : Prop :=
  ∀ n, s.isRunning n = true → (p.channels.get n).usable = true ∧ covered p.scanList n = true

/-- What is asked of a property of the channels for every step to keep it: that moves keep it, and the works that are more than a
move. `G` is what is known of active profiles. -/
structure ChannelLaw (G : Profile → Prop) (X : State → Prop) : Prop where
  same : ∀ {s t : State}, X s → s.SameChannels t → X t
  elapse : ∀ {s : State} (d : Nat), X s → X (s.elapse d)
  moves : ∀ {s t : State} {n : Chan} {v : ChanView} {path : Path}, X s → G s.store.active → s.MovesOnly t n v path →
    (s.view n).Prepares v → PathAllowed (s.ready n) (s.channels.get n).state path → X t
  tick : ∀ {s : State} (n : Chan), G s.store.active → X s → X (s.rampTick n)
  trip : ∀ {s : State} (n : Chan) (kind : TripKind), G s.store.active → X s → X (s.takeTrip n kind)
  scan : ∀ {s : State} (sense : BitVec 10), G s.store.active → X s → X (s.scanStep sense)
  converts : ∀ {s : State} (value : Int), G s.store.active → X s → X (s.conversionCompletes value)
  install : ∀ {s : State} {p : Profile}, G s.store.active → G p → s.RunsUnder p → X s → X (s.install p)
  bringUp : ∀ {s : State}, s.HeldUntilRecall → s.startup.phase = .recalling → G s.nv.recall.2 → X s.bringUp

theorem overMask_keeps {P : State → Prop} {work : State → Chan → State × ChanResult} (h : ∀ s n, P s → P (work s n).1)
    (mask : Byte) {s : State} (holds : P s) : P (overMask mask work s).1 := by
  have walk : ∀ (l : List Chan) (acc : State × List ChanResult), P acc.1 → P (l.foldl (nameChan mask work) acc).1 := by
    intro l
    induction l with
    | nil => exact fun _ holds => holds
    | cons n rest ih =>
      refine fun acc holds => ih _ ?_
      unfold nameChan
      split
      · exact h _ _ holds
      · exact holds
  exact walk allChans (s, []) holds

theorem forEachChan_keeps {P : State → Prop} {work : State → Chan → State} (h : ∀ s n, P s → P (work s n)) {s : State}
    (holds : P s) : P (forEachChan work s) := h _ _ (h _ _ (h _ _ (h _ _ holds)))

/-- R120: a profile that passes the checks covers the channels that run. -/
theorem runsUnder_of_passes {s : State} {p : Profile} (passes : firstFailure p s.isRunning = none) : s.RunsUnder p := by
  intro n running
  simp only [firstFailure, Option.orElse_eq_orElse, Option.orElse_eq_or, Option.or_eq_none_iff, Option.map_eq_none_iff] at passes
  obtain ⟨_, _, _, _, inUse, coverage⟩ := passes
  have usable := List.find?_eq_none.mp (Option.map_eq_none_iff.mp inUse) n (mem_allChans n)
  have listed := List.find?_eq_none.mp (Option.map_eq_none_iff.mp coverage) n (mem_allChans n)
  simp only [running, Bool.true_and, Bool.not_eq_true', Bool.not_eq_false] at usable listed
  exact ⟨usable, listed⟩

section

variable {G : Profile → Prop} {X : State → Prop} (law : ChannelLaw G X) {s t : State}
include law

/-- A move keeps what is known of the active profile besides. -/
theorem ChannelLaw.step_move {n : Chan} {v : ChanView} {path : Path} (moved : s.MovesOnly t n v path)
    (prepared : (s.view n).Prepares v) (allowed : PathAllowed (s.ready n) (s.channels.get n).state path)
    (holds : G s.store.active ∧ X s) : G t.store.active ∧ X t :=
  ⟨moved.elsewhere.store ▸ holds.1, law.moves holds.2 holds.1 moved prepared allowed⟩

theorem ChannelLaw.holdChanged (n : Chan) (before : Bool) (holds : G s.store.active ∧ X s) :
    X (s.holdChanged n before) := by
  refine (law.step_move (s.holdChanged_movesOnly n before) ⟨rfl, .inl rfl, ?_, .inl rfl, rfl, .inl rfl, rfl, rfl⟩
    (s.holdChangePath_allowed n _ _ _) holds).2
  dsimp only
  split <;> simp [State.view]

theorem ChannelLaw.softHold (on : Bool) (n : Chan) (holds : G s.store.active ∧ X s) :
    G (softHoldChan on s n).1.store.active ∧ X (softHoldChan on s n).1 := by
  refine law.step_move ((softHoldChan_hasEffect on).moves s n) ⟨rfl, .inl rfl, ?_, .inl rfl, rfl, .inl rfl, rfl, rfl⟩
    (s.holdChangePath_allowed n _ _ _) holds
  simp only [softHoldEffect]
  split <;> simp [State.view]

/-- R14, R15, R17: the requests on channels. -/
theorem ChannelLaw.request {r : RequestName} {path : State → Chan → Path} {idle : ChanResult}
    {work : State → Chan → State × ChanResult} (effect : HasEffect work (requestEffect r path idle))
    (allowed : ∀ s n, PathAllowed (s.ready n) (s.channels.get n).state (path s n)) (mask : Byte) (good : G s.store.active)
    (holds : X s) : X (overMask mask work s).1 := by
  refine (overMask_keeps (P := fun s => G s.store.active ∧ X s) (fun s n holds => ?_) mask ⟨good, holds⟩).2
  refine law.step_move (effect.moves s n) ⟨rfl, .inl rfl, ?_, .inl rfl, rfl, .inl rfl, rfl, rfl⟩ (allowed s n) holds
  simp only [requestEffect, requestStart]
  split <;> simp [State.view]

theorem ChannelLaw.startChannel (n : Chan) (holds : G s.store.active ∧ X s) :
    G (s.startChannel n).store.active ∧ X (s.startChannel n) := by
  unfold State.startChannel
  split
  · exact law.step_move (s.startWanted_movesOnly n .start) (.refl _) (s.wantedPath_allowed n _ _) holds
  · exact holds

theorem ChannelLaw.commit {p : Profile} (passes : firstFailure p s.isRunning = none) (good : G s.store.active)
    (installed : G (s.commit p).store.active) (holds : X s) : X (s.commit p) := by
  have dropped : s.SameChannels s.dropEdit := ⟨rfl, rfl, rfl, rfl, rfl, rfl⟩
  have active : (s.commit p).store.active = { p with generation := s.store.active.generation + 1 } := by
    rw [(s.commit_reports p).store]
    rfl
  have under : s.dropEdit.RunsUnder { p with generation := s.store.active.generation + 1 } := runsUnder_of_passes passes
  rw [active] at installed
  exact law.install good installed under (law.same holds dropped)

theorem ChannelLaw.serves {r : RequestName} (served : s.Serves r t) (good : G s.store.active) (installed : G t.store.active)
    (holds : X s) : X t := by
  cases served with
  | hello =>
    unfold State.hello
    split
    · refine law.same holds ?_
      have closed := s.emptyCache.closeEdit_sameChannels .level
      exact ⟨closed.channels, closed.targets, closed.drive, closed.scanner, closed.seq, closed.active⟩
    · exact law.same holds ⟨rfl, rfl, rfl, rfl, rfl, rfl⟩
  | bye =>
    have closed := s.closeEdit_sameChannels .bye
    exact law.same holds ⟨closed.channels, closed.targets, closed.drive, closed.scanner, closed.seq, closed.active⟩
  | grants =>
    unfold State.grantLevel
    dsimp only
    split
    · exact law.same holds ⟨rfl, rfl, rfl, rfl, rfl, rfl⟩
    · refine law.same holds (State.SameChannels.trans ?_ (State.closeEdit_sameChannels _ .level))
      exact ⟨rfl, rfl, rfl, rfl, rfl, rfl⟩
  | enable mask => exact law.request enableChan_hasEffect State.enablePath_allowed mask good holds
  | disable mask => exact law.request disableChan_hasEffect State.disablePath_allowed mask good holds
  | clear mask => exact law.request clearChan_hasEffect State.clearPath_allowed mask good holds
  | softHold mask on =>
    exact (overMask_keeps (P := fun s => G s.store.active ∧ X s) (fun s n => law.softHold on n) mask ⟨good, holds⟩).2
  | commit _ _ passes => exact law.commit passes good installed holds
  | commitPersist _ _ passes =>
    rw [State.startPersist_store] at installed
    have done := law.commit passes good installed holds
    refine law.same done ?_
    constructor <;> simp
  | revert _ still =>
    rw [(State.install_reports s _).store] at installed
    exact law.install good installed (fun n runs => absurd runs (by simp [still n])) holds
  | nothing => exact holds
  | codeRight | codeWrong | noticeMask | ackNotices | resetPart | openEdit | abandonEdit | put | persist | clearLog =>
    exact law.same holds ⟨rfl, rfl, rfl, rfl, rfl, rfl⟩

theorem ChannelLaw.works (work : s.Works t) (running : s.startup.phase = .running) (good : G s.store.active)
    (installed : G t.store.active) (holds : X s) : X t := by
  have passed : ∀ d, X (s.elapse d) := fun d => law.elapse d holds
  cases work with
  | nothing => exact holds
  | elapses d => exact passed d
  | serves _ _ _ served => exact law.serves served good installed holds
  | startsAck => exact law.same holds ⟨rfl, rfl, rfl, rfl, rfl, rfl⟩
  | ackExpires | lockoutExpires => exact law.same (passed _) ⟨rfl, rfl, rfl, rfl, rfl, rfl⟩
  | editIdleExpires => exact law.same (passed _) (State.closeEdit_sameChannels _ .timeout)
  | holdPin n asserted =>
    simp only [State.holdPinTaken, running, if_true]
    exact law.holdChanged n _ ⟨good, law.same holds ⟨rfl, rfl, rfl, rfl, rfl, rfl⟩⟩
  | blankingExpires state timer =>
    refine law.moves (passed _) good (State.blankingExpires_movesOnly _ _)
      ⟨rfl, .inl rfl, le_rfl, .inr ⟨?_, ?_, rfl⟩, rfl, .inl rfl, rfl, rfl⟩ ?_
    · simpa [State.view, Channel.elapse] using state
    · simp [State.view, Channel.elapse, timer]
    · split
      · exact ⟨by simpa [ChState.MayEnter, Channel.elapse] using state, trivial⟩
      · exact trivial
  | stableExpires =>
    exact law.moves (passed _) good (State.stableExpires_movesOnly _ _)
      ⟨rfl, .inl rfl, Nat.zero_le _, .inl rfl, rfl, .inr rfl, rfl, rfl⟩ trivial
  | retryExpires =>
    exact law.moves (passed _) good (State.enterQualifying_movesOnly _ _ .retryDue) (.refl _) (State.qualifyPath_allowed _ _ _ _)
  | rampTick => exact law.tick _ good (passed _)
  | takesConfirmation =>
    rename_i n kind _ _
    refine law.trip n kind good (law.moves holds good (s.setChan_movesOnly n rfl) ?_ trivial)
    exact ⟨rfl, .inl rfl, le_rfl, .inl rfl, rfl, .inl rfl, rfl, rfl⟩
  | scanStep => exact law.scan _ good holds
  | conversionCompletes => exact law.converts _ good (passed _)
  | pageCompletes =>
    rename_i o matched _
    refine law.same (passed o.write.remaining) ?_
    unfold State.pageCompletes
    split_ifs <;> exact ⟨rfl, rfl, rfl, rfl, rfl, rfl⟩

theorem ChannelLaw.recallEnds (held : s.HeldUntilRecall) (recalling : s.startup.phase = .recalling)
    (good : G s.nv.recall.2) : X s.recallEnds := by
  have up : G (s.bringUp.postStart s.nv.recall.1).store.active ∧ X (s.bringUp.postStart s.nv.recall.1) :=
    ⟨good, law.same (law.bringUp held recalling good) ⟨rfl, rfl, rfl, rfl, rfl, rfl⟩⟩
  exact law.same (forEachChan_keeps (P := fun s => G s.store.active ∧ X s) (fun s n => law.startChannel n) up).2 ⟨rfl, rfl, rfl, rfl, rfl, rfl⟩

end

/-! ## Laws that no condition of the Sequencer enters -/

/-- The channels, their Drive Stages, targets and tallies, and the profile they obey, are the same. -/
structure State.SameStages (s t : State) : Prop where
  channels : t.channels = s.channels
  targets : t.targets = s.targets
  drive : t.drive = s.drive
  scanner : t.scanner = s.scanner
  active : t.store.active = s.store.active

/-- What is asked of a property that the conditions of the Sequencer do not enter: a completion and an installed profile then
only move channels, but for the targets computed and the values replaced. -/
structure StageLaw (G : Profile → Prop) (X : State → Prop) : Prop where
  same : ∀ {s t : State}, X s → s.SameStages t → X t
  elapse : ∀ {s : State} (d : Nat), X s → X (s.elapse d)
  moves : ∀ {s t : State} {n : Chan} {v : ChanView} {path : Path}, X s → G s.store.active → s.MovesOnly t n v path →
    (s.view n).Prepares v → PathAllowed (s.ready n) (s.channels.get n).state path → X t
  tick : ∀ {s : State} (n : Chan), G s.store.active → X s → X (s.rampTick n)
  trip : ∀ {s : State} (n : Chan) (kind : TripKind), G s.store.active → X s → X (s.takeTrip n kind)
  scan : ∀ {s : State} (sense : BitVec 10), G s.store.active → X s → X (s.scanStep sense)
  targets : ∀ {s : State}, G s.store.active → X s → X s.recomputeTargets
  replaces : ∀ {s : State} {p : Profile}, G s.store.active → G p → X s →
    X ((s.withStore { s.store with active := p }).takeProfile s.store.active)
  bringUp : ∀ {s : State}, s.HeldUntilRecall → s.startup.phase = .recalling → G s.nv.recall.2 → X s.bringUp

theorem State.evaluateWarning_sameStages (s : State) (p : Point) : s.SameStages (s.evaluateWarning p) := by
  unfold State.evaluateWarning
  dsimp only
  split_ifs <;> exact ⟨rfl, rfl, rfl, rfl, rfl⟩

section

variable {G : Profile → Prop} {X : State → Prop} (law : StageLaw G X) {s : State}
include law

/-- R8: the evaluation of wait reasons is a move. -/
theorem StageLaw.reevaluate (n : Chan) (cause : Cause) (holds : G s.store.active ∧ X s) :
    G (s.reevaluate n cause).store.active ∧ X (s.reevaluate n cause) := by
  refine ⟨(s.reevaluate_reports n cause).store ▸ holds.1, ?_⟩
  unfold State.reevaluate
  split_ifs with qualifying ready
  · exact law.moves holds.2 holds.1 (s.transition_movesOnly n .ramping cause (by decide)) (.refl _) ⟨.inl ready, trivial⟩
  · exact law.moves holds.2 holds.1 (s.setChan_movesOnly n rfl)
      ⟨rfl, .inr qualifying, le_rfl, .inl rfl, rfl, .inl rfl, rfl, rfl⟩ trivial
  · exact holds.2

theorem StageLaw.supplyLost (n : Chan) (holds : G s.store.active ∧ X s) :
    G (s.supplyLost n).store.active ∧ X (s.supplyLost n) :=
  ⟨(s.supplyLost_reports n).store ▸ holds.1,
    law.moves holds.2 holds.1 (s.supplyLost_movesOnly n) (.refl _) (s.supplyLostPath_allowed n)⟩

theorem StageLaw.supplyChanged (n : Chan) (holds : G s.store.active ∧ X s) :
    G (s.supplyChanged n).store.active ∧ X (s.supplyChanged n) := by
  unfold State.supplyChanged
  split_ifs
  · exact law.reevaluate n .ready holds
  · exact holds
  · exact law.supplyLost n holds

theorem StageLaw.confirmOverTemp (holds : G s.store.active ∧ X s) :
    G s.confirmOverTemp.store.active ∧ X s.confirmOverTemp :=
  forEachChan_keeps (P := fun s => G s.store.active ∧ X s)
    (fun s n holds => ⟨(s.takeTrip_reports n .ot).store ▸ holds.1, law.trip n .ot holds.1 holds.2⟩) holds

theorem StageLaw.reevaluateAll (cause : Cause) (holds : G s.store.active ∧ X s) :
    G (forEachChan (fun s n => s.reevaluate n cause) s).store.active
      ∧ X (forEachChan (fun s n => s.reevaluate n cause) s) :=
  forEachChan_keeps (P := fun s => G s.store.active ∧ X s) (fun _ n => law.reevaluate n cause) holds

/-- A work that leaves the channels, their stages and the profile. -/
theorem StageLaw.quiet {t : State} (holds : G s.store.active ∧ X s) (same : s.SameStages t) : G t.store.active ∧ X t :=
  ⟨same.active ▸ holds.1, law.same holds.2 same⟩

theorem StageLaw.tempSteps (wasValid : Bool) (holds : G s.store.active ∧ X s) : G (s.tempSteps wasValid).store.active ∧ X (s.tempSteps wasValid) := by
  have warned := law.quiet holds (s.evaluateWarning_sameStages .temp)
  have targeted : G (s.evaluateWarning .temp).recomputeTargets.store.active ∧ X (s.evaluateWarning .temp).recomputeTargets :=
    ⟨warned.1, law.targets warned.1 warned.2⟩
  have judged := law.quiet (t := (s.evaluateWarning .temp).recomputeTargets.evaluateOverTemp) targeted
    ⟨rfl, rfl, rfl, rfl, rfl⟩
  unfold State.tempSteps
  dsimp only
  split_ifs
  · exact law.reevaluateAll .ready (law.confirmOverTemp judged)
  · exact law.reevaluateAll .ready judged
  · exact law.confirmOverTemp judged
  · exact judged

theorem StageLaw.evaluateBand (holds : G s.store.active ∧ X s) : G s.evaluateBand.store.active ∧ X s.evaluateBand := by
  unfold State.evaluateBand
  dsimp only
  split_ifs
  · exact holds
  · exact ⟨holds.1, law.targets (s := s.withSeq _) holds.1 (law.same holds.2 ⟨rfl, rfl, rfl, rfl, rfl⟩)⟩

theorem StageLaw.evaluateSupply (holds : G s.store.active ∧ X s) :
    G s.evaluateSupply.store.active ∧ X s.evaluateSupply := by
  unfold State.evaluateSupply
  dsimp only
  split_ifs
  · exact holds
  · exact forEachChan_keeps (P := fun s => G s.store.active ∧ X s) (fun _ n => law.supplyChanged n)
      (law.quiet holds ⟨rfl, rfl, rfl, rfl, rfl⟩)

theorem StageLaw.converts (value : Int) (good : G s.store.active) (holds : X s) : X (s.conversionCompletes value) := by
  have taken : ∀ p v, G (s.takeResult p v).store.active ∧ X (s.takeResult p v) := fun p v =>
    law.quiet ⟨good, holds⟩ ⟨rfl, rfl, rfl, rfl, rfl⟩
  have begun : ∀ (u : State) (p : Point), X u → X (u.beginNext p) := fun u p holds => law.same holds ⟨rfl, rfl, rfl, rfl, rfl⟩
  unfold State.conversionCompletes State.completionSteps
  refine begun _ _ ?_
  split
  · exact (law.tempSteps _ (taken _ _)).2
  · exact (law.evaluateSupply (law.evaluateBand (law.quiet (taken _ _) (State.evaluateWarning_sameStages _ .supply)))).2
  · unfold State.chanPointSteps
    split_ifs
    · exact (law.quiet (taken _ _) (State.evaluateWarning_sameStages _ _)).2
    · exact (taken _ _).2

theorem StageLaw.install {p : Profile} (good : G s.store.active) (installed : G p) (holds : X s) : X (s.install p) := by
  have taken : G ((s.withStore { s.store with active := p }).takeProfile s.store.active).store.active
      ∧ X ((s.withStore { s.store with active := p }).takeProfile s.store.active) := ⟨installed, law.replaces good installed holds⟩
  have supplied : ∀ {u : State} (was : Bool), G u.store.active ∧ X u →
      G (u.supplyReplaced was).store.active ∧ X (u.supplyReplaced was) := fun was holds => by
    unfold State.supplyReplaced
    split_ifs
    · exact holds
    · exact law.quiet holds ⟨rfl, rfl, rfl, rfl, rfl⟩
    · exact forEachChan_keeps (P := fun s => G s.store.active ∧ X s) (fun _ n => law.supplyLost n)
        (law.quiet holds ⟨rfl, rfl, rfl, rfl, rfl⟩)
  have tripped : ∀ {u : State} (was : Bool), G u.store.active ∧ X u →
      G (u.overTempReplaced was).store.active ∧ X (u.overTempReplaced was) := fun was holds => by
    unfold State.overTempReplaced
    split
    · exact law.confirmOverTemp holds
    · exact holds
  exact (law.reevaluateAll .commit (tripped s.seq.overTemp (supplied s.seq.supplyOk taken))).2

theorem StageLaw.channelLaw : ChannelLaw G X where
  same := fun holds same => law.same holds ⟨same.channels, same.targets, same.drive, same.scanner, same.active⟩
  elapse := law.elapse
  moves := law.moves
  tick := law.tick
  trip := law.trip
  scan := law.scan
  converts := law.converts
  install := fun good installed _ holds => law.install good installed holds
  bringUp := law.bringUp

end

/-! ## Every step -/

/-- A property that the link's own doing, the works and the resets keep where the blocks are held until recall. -/
structure KeptWhileHeld (Y : State → Prop) : Prop where
  queue : ∀ (s : State) (rest : List Instr), Y s → Y { s with pending := rest }
  lines : ∀ {s t : State}, s.LineOnly t → Y s → Y t
  works : ∀ {s t : State}, s.HeldUntilRecall → s.Works t → Y s → Y t
  resets : ∀ {s t : State}, s.HeldUntilRecall → s.Resets t → Y s → Y t

theorem KeptWhileHeld.step {Y : State → Prop} (kept : KeptWhileHeld Y) {s t : State} (held : s.HeldUntilRecall) (holds : Y s)
    (stepped : step s = .next t) : t.HeldUntilRecall ∧ Y t :=
  step_keeps (P := fun s => s.HeldUntilRecall ∧ Y s) (fun s rest ok => ⟨ok.1.queue rest, kept.queue s rest ok.2⟩)
    (fun _ _ lines ok => ⟨lines.held ok.1, kept.lines lines ok.2⟩)
    (fun _ _ work ok => ⟨work.held ok.1, kept.works ok.1 work ok.2⟩)
    (fun _ _ reset ok => ⟨reset.held ok.1, kept.resets ok.1 reset ok.2⟩) ⟨held, holds⟩ stepped

theorem keptWhileHeld_true : KeptWhileHeld fun _ => True :=
  ⟨fun _ _ _ => trivial, fun _ _ => trivial, fun _ _ _ => trivial, fun _ _ _ => trivial⟩

@[simp] theorem State.linkReset_phase (s : State) : s.linkReset.startup.phase = s.startup.phase := s.linkReset_samePhase.phase

/-- R189: what a law says of the channels holds while the part runs. -/
theorem ChannelLaw.kept {G : Profile → Prop} {X Y : State → Prop} (law : ChannelLaw G X) (profiles : KeptWhileHeld Y)
    (good : ∀ s, Y s → G s.store.active) : KeptWhileHeld fun s => Y s ∧ (s.startup.phase = .running → X s) where
  queue := fun s rest holds => ⟨profiles.queue s rest holds.1, fun running => law.same (holds.2 running) ⟨rfl, rfl, rfl, rfl, rfl, rfl⟩⟩
  lines := fun lines holds => ⟨profiles.lines lines holds.1, fun running =>
    law.same (holds.2 (lines.startup ▸ running)) lines.sameChannels⟩
  works := fun held work holds => by
    have profile := profiles.works held work holds.1
    refine ⟨profile, fun running => ?_⟩
    have before := work.samePhase.phase ▸ running
    exact law.works work before (good _ holds.1) (good _ profile) (holds.2 before)
  resets := fun {s t} held reset holds => by
    have profile := profiles.resets held reset holds.1
    refine ⟨profile, fun running => ?_⟩
    cases reset with
    | link =>
      rename_i left _
      have before : s.startup.phase = .running := by simpa using running
      have closed := State.closeEdit_sameChannels ((s.elapse left).withLink (s.elapse left).link.afterLinkReset) .linkReset
      exact law.same (law.elapse _ (holds.2 before))
        ⟨closed.channels, closed.targets, closed.drive, closed.scanner, closed.seq, closed.active⟩
    | request | supply | pin | released => cases running
    | recallEnds recalling =>
      have elapsed : (s.elapse s.toRecallEnd).HeldUntilRecall := (State.Works.elapses s _).held held
      have installed := good _ profile
      rw [(State.recallEnds_reports _).store] at installed
      exact law.recallEnds elapsed (by simpa using recalling) installed

end Sys2Proof.Machine

/-! The channels and their Drive Stages (R1, R6, R12, R53, R58): the timers, the wait-reason set and the mode of each are those of
its channel's state. -/

namespace Sys2Proof.Machine

/-- Channel `n`, seen as `v`, is in order and so is its Drive Stage. -/
def StageOk (s : State) (n : Chan) (v : ChanView) : Prop := v.chan.Ok ∧ v.drive.Ok v.chan.state (s.prof n).park

/-- The whole of `State.ChannelsOk` in a running part. -/
def State.StagesOk (s : State) : Prop := ∀ n, StageOk s n (s.view n)

theorem channelAtReset_ok : channelAtReset.Ok := by
  constructor <;> simp [channelAtReset]

theorem DriveStage.Ok.atPark {st : ChState} (parked : st.driveMode = .parked) (park : Nat) :
    (⟨park, .parked, .stopped⟩ : DriveStage).Ok st park :=
  ⟨parked.symm, by simp, fun _ => rfl⟩

/-- A Drive Stage whose output moves, its tick timer running. -/
theorem DriveStage.Ok.moving {st : ChState} {mode : DriveMode} (moves : mode = .track ∨ mode = .wind) (same : mode = st.driveMode)
    (output park : Nat) {tick : Timer} (runs : tick ≠ .stopped) : (⟨output, mode, tick⟩ : DriveStage).Ok st park := by
  refine ⟨same, ⟨fun _ => moves, fun _ => runs⟩, fun parked => ?_⟩
  rcases moves with rfl | rfl <;> cases parked

/-- A Drive Stage that tracks or winds has its tick timer running. -/
theorem DriveStage.Ok.ticks {d : DriveStage} {st : ChState} {park : Nat} (h : d.Ok st park)
    (driven : d.mode = .track ∨ d.mode = .wind) : d.tick ≠ .stopped := h.tick.mpr driven

/-- R53: the order that comes with an entry leaves the Drive Stage in the mode of the state entered. -/
theorem DriveStage.Ok.orderFor {d : DriveStage} {before st : ChState} {park : Nat} {ready : Bool} (h : d.Ok before park)
    (may : before.MayEnter ready st) : (d.orderFor st park).Ok st park := by
  cases st
  case ramping =>
    obtain ⟨output, stands, tick⟩ := d
    cases stands with
    | undriven => cases before <;> cases h.mode
    | parked => exact .moving (.inl rfl) rfl _ _ (by simp)
    | track => exact .moving (.inl rfl) rfl _ _ (h.ticks (.inl rfl))
    | wind => exact .moving (.inl rfl) rfl _ _ (h.ticks (.inr rfl))
  case active =>
    have track : d.mode = .track := h.mode.trans (by rw [show before = .ramping from may]; rfl)
    exact DriveStage.Ok.moving (st := .active) (.inl track) track _ _ (h.ticks (.inl track))
  case windingDown =>
    have track : d.mode = .track := h.mode.trans (by rcases may with rfl | rfl <;> rfl)
    simp only [DriveStage.orderFor, DriveStage.windDown, track]
    exact .moving (.inr rfl) rfl _ _ (h.ticks (.inl track))
  all_goals rw [h.parks rfl]; exact .atPark rfl park

theorem Channel.enter_ok (c : Channel) (st : ChState) (p : ChannelProfile) (w : WaitSet) :
    ({ c.enter st p with wait := if st = .qualifying then w else noWait } : Channel).Ok := by
  cases st <;> constructor <;> simp [Channel.enter, blankingFor, retryFor, stableFor]

theorem Channel.Ok.prepares {v w : ChanView} (h : v.chan.Ok) (prepared : v.Prepares w) : w.chan.Ok where
  wait := fun other => by
    rw [prepared.state] at other
    rcases prepared.wait with same | qualifying
    · exact same ▸ h.wait other
    · exact absurd qualifying other
  blanking := by
    rw [prepared.state]
    rcases prepared.blanking with same | ⟨ramping, _, expired⟩
    · exact same ▸ h.blanking
    · simp [expired, ramping]
  retry := by
    rw [prepared.state, prepared.retry]
    exact h.retry
  stable := by
    rw [prepared.state]
    rcases prepared.stable with same | stopped
    · exact same ▸ h.stable
    · exact fun runs => absurd stopped runs

theorem stageOk_invariant : ChanInvariant (fun _ => True) StageOk where
  depends := fun elsewhere h => ⟨h.1, elsewhere.prof _ ▸ h.2⟩
  enters := fun _ may h => ⟨Channel.enter_ok _ _ _ _, h.2.orderFor may⟩
  prepares := fun _ prepared h => ⟨h.1.prepares prepared, by rw [prepared.drive, prepared.state]; exact h.2⟩

theorem StageOk.elapse {s : State} {n : Chan} (h : StageOk s n (s.view n)) (d : Nat) :
    StageOk (s.elapse d) n ((s.elapse d).view n) := by
  obtain ⟨chan, drive⟩ := h
  simp only [StageOk, State.view, State.elapse_channels, State.elapse_drive, Quad.get_map]
  refine ⟨⟨chan.wait, ?_, ?_, ?_⟩, drive.mode, ?_, drive.parked⟩
  · simpa [Channel.elapse, State.view] using chan.blanking
  · simpa [Channel.elapse, State.view] using chan.retry
  · simpa [Channel.elapse, State.view] using chan.stable
  · simpa [State.view] using drive.tick

/-- R55 to R57: the Drive Stage stays in its mode, or is parked with its channel DISABLED. -/
theorem State.StagesOk.tick {s : State} (h : s.StagesOk) (n : Chan) : (s.rampTick n).StagesOk := by
  have moved := s.rampTick_movesOnly n
  obtain ⟨chan, drive⟩ := h n
  refine stageOk_invariant.acts moved.acts ?_ h
  have mode : (s.drive.get n).mode = (s.channels.get n).state.driveMode := drive.mode
  have own : ∀ d : DriveStage, d.Ok (s.channels.get n).state (s.prof n).park → StageOk s n { s.view n with drive := d } :=
    fun _ drive => ⟨chan, drive⟩
  simp only [State.pathOutcome, State.tickDrive, State.tickPath]
  cases now : (s.drive.get n).mode
  case parked | undriven => exact own _ drive
  case track =>
    have ticked := own _ (.moving (.inl rfl) (now ▸ mode) (stepToward (s.drive.get n).output (s.targets.get n) (s.prof n).slew) _
      (tick := .running Config.tickPeriod) (by simp))
    refine stageOk_invariant.follow trivial ?_ ticked
    dsimp only
    split_ifs with settles
    · exact ⟨settles.2.1, trivial⟩
    · exact trivial
  case wind =>
    have winding : (s.channels.get n).state = .windingDown := by
      rw [now] at mode
      cases state : (s.channels.get n).state <;> simp [state, ChState.driveMode] at mode
      rfl
    dsimp only
    by_cases arrives : stepToward (s.drive.get n).output (s.prof n).park (s.prof n).slew = (s.prof n).park
    · simp only [arrives, winding, and_self, if_true]
      exact ⟨Channel.enter_ok _ _ _ _, .atPark rfl _⟩
    · simp only [arrives, if_false, false_and]
      exact own _ (.moving (.inr rfl) (now ▸ mode) _ _ (by simp))

theorem State.StagesOk.trip {s : State} (h : s.StagesOk) (n : Chan) (kind : TripKind) : (s.takeTrip n kind).StagesOk := by
  refine stageOk_invariant.acts (s.takeTrip_acts n kind) ?_ h
  unfold State.tripOutcome
  split_ifs with takes
  · exact stageOk_invariant.follow trivial (tripPath_allowed takes _ _ _) ⟨⟨(h n).1.wait, (h n).1.blanking, (h n).1.retry,
      (h n).1.stable⟩, (h n).2⟩
  · exact h n

/-- R73: a scan step touches of a channel at most its confirmations. -/
theorem State.scanStep_channel (s : State) (sense : BitVec 10) (n : Chan) :
    ∃ pending, (s.scanStep sense).channels.get n = { s.channels.get n with confirmations := pending } := by
  have same : ∃ pending, s.channels.get n = { s.channels.get n with confirmations := pending } := ⟨_, rfl⟩
  unfold State.scanStep
  split
  · exact same
  · rename_i p _
    unfold State.sample
    dsimp only
    split_ifs
    · by_cases own : n = pointChan p
      · subst own
        exact ⟨_, by simp [State.setPendingTrip]; rfl⟩
      · refine ⟨(s.channels.get n).confirmations, ?_⟩
        simp [State.setPendingTrip, Quad.get_set_of_ne _ _ own]
    · exact same
    · exact same

theorem State.scanStep_drive (s : State) (sense : BitVec 10) : (s.scanStep sense).drive = s.drive := by
  unfold State.scanStep State.sample
  dsimp only
  split
  · rfl
  · split_ifs <;> rfl

theorem State.scanStep_active (s : State) (sense : BitVec 10) : (s.scanStep sense).store.active = s.store.active := by
  rw [(s.scanStep_reports sense).store]

theorem State.StagesOk.scan {s : State} (h : s.StagesOk) (sense : BitVec 10) : (s.scanStep sense).StagesOk := fun n => by
  obtain ⟨pending, channel⟩ := s.scanStep_channel sense n
  obtain ⟨chan, drive⟩ := h n
  simp only [StageOk, State.view, channel, State.scanStep_drive, State.prof, State.scanStep_active]
  exact ⟨⟨chan.wait, chan.blanking, chan.retry, chan.stable⟩, drive⟩

theorem DriveStage.Ok.newPark {d : DriveStage} {st : ChState} {park : Nat} (h : d.Ok st park) (new : Nat) :
    (d.newPark new).Ok st new := by
  obtain ⟨output, mode, tick⟩ := d
  cases mode with
  | parked => exact ⟨h.mode, h.tick, fun _ => rfl⟩
  | track | wind | undriven => exact ⟨h.mode, h.tick, nofun⟩

theorem stagesOk_law : StageLaw (fun _ => True) State.StagesOk where
  same := fun {s t} h same n => by
    have view : (t.view n).chan = (s.view n).chan ∧ (t.view n).drive = (s.view n).drive := by
      simp [State.view, same.channels, same.drive]
    simp only [StageOk, view, State.prof, same.active]
    exact h n
  elapse := fun d h n => (h n).elapse d
  moves := fun h _ moved prepared allowed => stageOk_invariant.moves trivial moved prepared allowed h
  tick := fun n _ h => h.tick n
  trip := fun n kind _ h => h.trip n kind
  scan := fun sense _ h => h.scan sense
  targets := fun _ h => h
  replaces := fun {s p} _ _ h n => by
    obtain ⟨chan, drive⟩ := h n
    have taken : ((s.withStore { s.store with active := p }).takeProfile s.store.active).view n
        = { s.view n with
            chan := { s.channels.get n with
              retryCount := min (s.channels.get n).retryCount (p.channels.get n).retryBudget }
            drive := (s.drive.get n).newPark (p.channels.get n).park
            tallies := (((s.withStore { s.store with active := p }).takeProfile s.store.active).view n).tallies } := by
      simp [State.view, State.takeProfile, State.lowerRetryCounts, State.newParks, State.scannerReplaced, State.seqReplaced,
        State.recomputeTargets, State.prof]
    rw [taken]
    exact ⟨⟨chan.wait, chan.blanking, chan.retry, chan.stable⟩, drive.newPark _⟩
  bringUp := fun {s} held recalling _ n => by
    have channels : s.channels = Quad.const channelAtReset := held.channels (by simp [recalling])
    have chan : (s.bringUp.view n).chan = channelAtReset := by
      change s.channels.get n = channelAtReset
      rw [channels, Quad.get_const]
    have drive : (s.bringUp.view n).drive = ⟨(s.bringUp.prof n).park, .parked, .stopped⟩ := by
      change (Quad.ofFn _).get n = _
      rw [Quad.get_ofFn]
      rfl
    rw [StageOk, chan, drive]
    exact ⟨channelAtReset_ok, .atPark rfl _⟩

/-- Settles O57: before the end of recall each channel is at its reset value; after it, every work moves channels as R4 to R27 let
them, and each entry brings its timers and its drive order. -/
theorem driveStagesMatchTheirChannels : Obligations.DriveStagesMatchTheirChannels := by
  intro s t held ok stepped
  have before : True ∧ (s.startup.phase = .running → s.StagesOk) :=
    ⟨trivial, fun running n => ⟨ok.channel n, ok.drive running n⟩⟩
  obtain ⟨after, _, stages⟩ := (stagesOk_law.channelLaw.kept keptWhileHeld_true fun _ _ => trivial).step held before stepped
  refine ⟨fun n => ?_, fun running n => (stages running n).2⟩
  by_cases running : t.startup.phase = .running
  · exact (stages running n).1
  · rw [after.channels running, Quad.get_const]
    exact channelAtReset_ok

end Sys2Proof.Machine

/-! Profiles, slots and the operation that writes them (R102 to R104, R120, R127 to R133): the active profile passes the commit
checks that need no channel, and no slot runs ahead of it. -/

namespace Sys2Proof.Machine

/-! ## Points and windows -/

theorem mem_allPoints (q : Point) : q ∈ allPoints := by
  match q with
  | .temp | .supply => decide
  | .chan n k => revert n k; intro n k; cases k <;> fin_cases n <;> decide

@[simp] theorem PerChanPoint.get_set {α : Type} (p : PerChanPoint α) (k j : ChanPoint) (a : α) :
    (p.set k a).get j = if j = k then a else p.get j := by
  cases k <;> cases j <;> rfl

@[simp] theorem PerPoint.get_set {α : Type} (w : PerPoint α) (q r : Point) (a : α) :
    (w.set q a).get r = if r = q then a else w.get r := by
  cases q with
  | temp | supply => cases r <;> rfl
  | chan n k =>
    cases r with
    | temp | supply => rfl
    | chan m j =>
      by_cases same : m = n
      · subst same
        simp [PerPoint.get, PerPoint.set]
      · simp [PerPoint.get, PerPoint.set, Quad.get_set_of_ne _ _ same, same]

theorem Quad.all_toList {α : Type} (q : Quad α) (f : α → Bool) : q.toList.all f = true ↔ ∀ n, f (q.get n) = true := by
  simp only [Quad.toList_eq_map_get, List.all_map, List.all_eq_true, Function.comp_apply]
  exact ⟨fun h n => h n (mem_allChans n), fun h n _ => h n⟩

/-! ## Ranges (R102, R103) -/

/-- R102, R103: a profile in range, part by part. -/
theorem Profile.inRange_iff (p : Profile) : p.inRange = true ↔
    (∀ n, (p.channels.get n).inRange = true) ∧ (1 ≤ p.scanList.length ∧ p.scanList.length ≤ 16)
      ∧ p.supply.inRange = true ∧ ∀ q, (p.windows.get q).inRange q = true := by
  have windows : (allPoints.all fun q => (p.windows.get q).inRange q) = true ↔ ∀ q, (p.windows.get q).inRange q = true := by
    rw [List.all_eq_true]
    exact ⟨fun h q => h q (mem_allPoints q), fun h q _ => h q⟩
  simp only [Profile.inRange, Bool.and_eq_true, Quad.all_toList, decide_eq_true_eq, windows, and_assoc]
  rfl

/-- R102: the fields of a channel profile that PUT_CHANNEL carries are in range. -/
def ChannelProfile.ScalarsInRange (p : ChannelProfile) : Prop :=
  (∀ band, -512 ≤ p.trim.get band ∧ p.trim.get band ≤ 511)
    ∧ p.floor ≤ 4095 ∧ p.ceiling ≤ 4095 ∧ p.park ≤ 4095 ∧ 1 ≤ p.slew ∧ p.slew ≤ 255
    ∧ 1 ≤ p.blanking ∧ p.blanking ≤ 255 ∧ 1 ≤ p.retryDelay ∧ p.retryDelay ≤ 255 ∧ p.retryBudget ≤ 15
    ∧ 1 ≤ p.stableTime ∧ p.stableTime ≤ 255 ∧ p.otPolicy ≠ .report

theorem ChannelProfile.inRange_iff (p : ChannelProfile) : p.inRange = true ↔
    curveOk p.curve = true ∧ p.ScalarsInRange ∧ ∀ k, (p.setting k).inRange k = true := by
  have settings : (∀ k, (p.setting k).inRange k = true)
      ↔ p.oc.inRange .oc = true ∧ p.hr.inRange .hr = true ∧ p.lf.inRange .lf = true :=
    ⟨fun h => ⟨h .oc, h .hr, h .lf⟩, fun ⟨oc, hr, lf⟩ k => by cases k <;> assumption⟩
  simp only [ChannelProfile.inRange, Bool.and_eq_true, Quad.all_toList, decide_eq_true_eq, settings,
    ChannelProfile.ScalarsInRange, and_assoc]

theorem natIn_iff {lo hi n m : Nat} : natIn lo hi n = some m ↔ m = n ∧ lo ≤ n ∧ n ≤ hi := by
  unfold natIn
  split_ifs with h
  · exact ⟨fun same => ⟨(Option.some.inj same).symm, h⟩, fun same => congrArg some same.1.symm⟩
  · exact ⟨nofun, fun inside => absurd inside.2 h⟩

theorem intIn_iff {lo hi i j : Int} : intIn lo hi i = some j ↔ j = i ∧ lo ≤ i ∧ i ≤ hi := by
  unfold intIn
  split_ifs with h
  · exact ⟨fun same => ⟨(Option.some.inj same).symm, h⟩, fun same => congrArg some same.1.symm⟩
  · exact ⟨nofun, fun inside => absurd inside.2 h⟩

theorem otPolicyIn_ne_report {b : Byte} {p : Policy} (h : otPolicyIn b = some p) : p ≠ .report := by
  unfold otPolicyIn at h
  split_ifs at h <;> cases h <;> decide

theorem tripPolicyIn_report {k : FastKind} {b : Byte} {p : Policy} (h : tripPolicyIn k b = some p) (report : p = .report) :
    k = .lf := by
  subst report
  unfold tripPolicyIn at h
  split_ifs at h with latch retry lf
  · cases h
  · cases h
  · exact lf.2

/-! ## What PUT requests take (R109 to R116) -/

theorem putCurveIn_curveOk {payload : List Byte} {n : Chan} {curve : List Breakpoint} (h : putCurveIn payload = some (n, curve)) :
    curveOk curve = true := by
  unfold putCurveIn at h
  split at h
  · simp only [Option.bind_eq_bind, Option.bind_eq_some_iff, Option.ite_none_right_eq_some, Option.some.injEq] at h
    obtain ⟨_, _, _, _, ok, same⟩ := h
    cases same
    exact ok.2
  · cases h

/-- R111: the fields are in range, and the curve and the trip settings are those that were. -/
theorem putChannelIn_inRange {payload : List Byte} {was : Chan → ChannelProfile} {n : Chan} {c : ChannelProfile}
    (h : putChannelIn payload was = some (n, c)) :
    c.ScalarsInRange ∧ c.curve = (was n).curve ∧ ∀ k, c.setting k = (was n).setting k := by
  unfold putChannelIn at h
  split at h
  · iterate 17 obtain ⟨_, _, h⟩ := Option.bind_eq_some_iff.mp h
    obtain ⟨_, heat, h⟩ := Option.bind_eq_some_iff.mp h
    obtain ⟨rfl, rfl⟩ := Prod.mk.inj (Option.some.inj h)
    refine ⟨?_, rfl, fun k => by cases k <;> rfl⟩
    simp only [natIn_iff, intIn_iff] at *
    refine ⟨fun band => ?_, ?_⟩
    · match band with
      | 0 | 1 | 2 | 3 =>
        simp only [Quad.get]
        omega
    · refine ⟨?_, ?_, ?_, ?_, ?_, ?_, ?_, ?_, ?_, ?_, ?_, ?_, otPolicyIn_ne_report heat⟩ <;> dsimp only <;> omega
  · cases h

theorem putTripIn_inRange {payload : List Byte} {n : Chan} {k : FastKind} {t : TripSetting}
    (h : putTripIn payload = some (n, k, t)) : t.inRange k = true := by
  unfold putTripIn at h
  split at h
  · simp only [Option.bind_eq_bind, Option.bind_eq_some_iff, natIn_iff, Option.some.injEq, Prod.mk.injEq] at h
    obtain ⟨_, _, _, _, _, ⟨rfl, _, threshold⟩, _, ⟨rfl, low, high⟩, _, policy, rfl, rfl, rfl⟩ := h
    exact decide_eq_true ⟨threshold, low, high, tripPolicyIn_report policy⟩
  · cases h

theorem length_of_mapM {α β : Type} (f : α → Option β) {l : List α} {r : List β} (h : l.mapM f = some r) :
    r.length = l.length := by
  induction l generalizing r with
  | nil =>
    cases h
    rfl
  | cons a rest ih =>
    simp only [List.mapM_cons, Option.bind_eq_bind, Option.bind_eq_some_iff, Option.pure_def, Option.some.injEq] at h
    obtain ⟨_, _, more, taken, rfl⟩ := h
    simp [ih taken]

theorem putScanListIn_inRange {payload : List Byte} {l : List PointNumber} (h : putScanListIn payload = some l) :
    1 ≤ l.length ∧ l.length ≤ 16 := by
  unfold putScanListIn at h
  split at h
  · split_ifs at h with counted
    have length := length_of_mapM _ h
    simp only [Config.maxScanSlots] at counted
    omega
  · cases h

theorem putWindowIn_inRange {payload : List Byte} {q : Point} {w : Window} (h : putWindowIn payload = some (q, w)) :
    w.inRange q = true := by
  unfold putWindowIn at h
  split at h
  · simp only [Option.bind_eq_bind, Option.bind_eq_some_iff, natIn_iff, intIn_iff, Option.some.injEq, Prod.mk.injEq] at h
    obtain ⟨_, _, _, ⟨high, highIn⟩, _, ⟨low, lowIn⟩, _, ⟨hyst, hystIn⟩, _, ⟨depth, depthIn⟩, rfl, rfl⟩ := h
    subst high low hyst depth
    exact decide_eq_true ⟨highIn.1, highIn.2, lowIn.1, lowIn.2, hystIn.1, hystIn.2, depthIn.2⟩
  · cases h

theorem putSupplyIn_inRange {payload : List Byte} {x : SupplySettings} (h : putSupplyIn payload = some x) :
    x.inRange = true := by
  unfold putSupplyIn at h
  split at h
  · rename_i hyst _ _ _ _ _ _ _
    simp only [Option.bind_eq_bind, Option.bind_eq_some_iff, natIn_iff, intIn_iff, Option.some.injEq] at h
    obtain ⟨_, ⟨e1, e1In⟩, _, ⟨e2, e2In⟩, _, ⟨e3, e3In⟩, _, ⟨least, leastIn⟩, _, ⟨most, mostIn⟩, _, ⟨limit, limitIn⟩, _,
      ⟨band, bandIn⟩, rfl⟩ := h
    subst e1 e2 e3 least most limit band
    have byte : hyst.toNat ≤ 255 := Nat.le_of_lt_succ hyst.isLt
    exact decide_eq_true ⟨e1In.2, e2In.2, e3In.2, byte, leastIn.2, mostIn.2, limitIn.1, limitIn.2, bandIn.1, bandIn.2⟩
  · cases h

theorem ChannelProfile.setSetting_setting (p : ChannelProfile) (k j : FastKind) (t : TripSetting) :
    (p.setSetting k t).setting j = if j = k then t else p.setting j := by
  cases k <;> cases j <;> rfl

/-- A profile in range with one channel's profile replaced by one in range. -/
theorem Profile.inRange_setChan {p : Profile} (h : p.inRange = true) (n : Chan) {c : ChannelProfile} (inRange : c.inRange = true) :
    (p.setChan n c).inRange = true := by
  rw [Profile.inRange_iff] at h ⊢
  refine ⟨fun m => ?_, h.2⟩
  simp only [Profile.setChan, Quad.get_set]
  split
  · exact inRange
  · exact h.1 m

/-- R109: a staged copy in range stays so. -/
theorem stagedAfter_inRange {r : RequestName} {payload : List Byte} {p q : Profile} (h : p.inRange = true)
    (taken : stagedAfter r payload p = some q) : q.inRange = true := by
  obtain ⟨channels, list, supply, windows⟩ := p.inRange_iff.mp h
  cases r
  case putCurve =>
    obtain ⟨⟨n, curve⟩, parsed, rfl⟩ := Option.map_eq_some_iff.mp taken
    obtain ⟨_, scalars, settings⟩ := (p.channels.get n).inRange_iff.mp (channels n)
    exact p.inRange_setChan h n ((ChannelProfile.inRange_iff _).mpr ⟨putCurveIn_curveOk parsed, scalars,
      fun k => by cases k; exacts [settings .oc, settings .hr, settings .lf]⟩)
  case putChannel =>
    obtain ⟨⟨n, c⟩, parsed, rfl⟩ := Option.map_eq_some_iff.mp taken
    obtain ⟨scalars, curve, settings⟩ := putChannelIn_inRange parsed
    obtain ⟨hcurve, _, hsettings⟩ := (p.channels.get n).inRange_iff.mp (channels n)
    exact p.inRange_setChan h n ((ChannelProfile.inRange_iff _).mpr ⟨curve ▸ hcurve, scalars, fun k => settings k ▸ hsettings k⟩)
  case putTrip =>
    obtain ⟨⟨n, k, t⟩, parsed, rfl⟩ := Option.map_eq_some_iff.mp taken
    obtain ⟨curve, scalars, settings⟩ := (p.channels.get n).inRange_iff.mp (channels n)
    refine p.inRange_setChan h n ((ChannelProfile.inRange_iff _).mpr ⟨?_, ?_, fun j => ?_⟩)
    · cases k <;> exact curve
    · cases k <;> exact scalars
    · rw [ChannelProfile.setSetting_setting]
      split_ifs with same
      · exact same ▸ putTripIn_inRange parsed
      · exact settings j
  case putScanList =>
    obtain ⟨l, parsed, rfl⟩ := Option.map_eq_some_iff.mp taken
    exact (Profile.inRange_iff _).mpr ⟨channels, putScanListIn_inRange parsed, supply, windows⟩
  case putWindow =>
    obtain ⟨⟨q, w⟩, parsed, rfl⟩ := Option.map_eq_some_iff.mp taken
    refine (Profile.inRange_iff _).mpr ⟨channels, list, supply, fun r => ?_⟩
    simp only [PerPoint.get_set]
    split_ifs with same
    · exact same ▸ putWindowIn_inRange parsed
    · exact windows r
  case putSupply =>
    obtain ⟨x, parsed, rfl⟩ := Option.map_eq_some_iff.mp taken
    exact (Profile.inRange_iff _).mpr ⟨channels, list, putSupplyIn_inRange parsed, windows⟩
  case putAccessCode | putLabel =>
    obtain ⟨w, _, rfl⟩ := Option.map_eq_some_iff.mp taken
    exact (Profile.inRange_iff _).mpr ⟨channels, list, supply, windows⟩
  all_goals cases taken

/-! ## Good profiles (R120) -/

/-- The checks do not read the generation. -/
theorem Profile.Good.withGeneration {p : Profile} (h : p.Good) (g : W32) : ({ p with generation := g } : Profile).Good :=
  ⟨h.ranges, h.floorCeiling, h.bandEdges, h.driveWindow, h.warningWindow⟩

theorem Profile.good_of_passes {p : Profile} {running : Chan → Bool} (inRange : p.inRange = true)
    (passes : firstFailure p running = none) : p.Good := by
  simp only [firstFailure, Option.orElse_eq_orElse, Option.orElse_eq_or, Option.or_eq_none_iff, Option.map_eq_none_iff] at passes
  obtain ⟨floors, edges, drive, warnings, _⟩ := passes
  exact ⟨inRange, floors, edges, drive, warnings⟩

theorem factoryProfile_good : factoryProfile.Good := by
  constructor <;> decide

theorem SlotPages.valid_iff (p : SlotPages) : p.valid = true ↔
    p.completionMark = true ∧ p.formatVersion = 1 ∧ p.checkMatches = true ∧ p.content.Good := by
  simp only [SlotPages.valid, Bool.and_eq_true, decide_eq_true_eq, Option.isNone_iff_eq_none, and_assoc]
  exact ⟨fun ⟨m, f, c, r, a, b, d, w⟩ => ⟨m, f, c, r, a, b, d, w⟩, fun ⟨m, f, c, g⟩ =>
    ⟨m, f, c, g.ranges, g.floorCeiling, g.bandEdges, g.driveWindow, g.warningWindow⟩⟩

/-! ## Slots (R126, R129) -/

section

variable (v : NvStore) (n m : SlotName)

@[simp] theorem NvStore.status_setStatus (x : SlotStatus) : (v.setStatus n x).status m = if m = n then x else v.status m := by
  cases n <;> cases m <;> rfl

@[simp] theorem NvStore.pages_setStatus (x : SlotStatus) : (v.setStatus n x).pages m = v.pages m := by
  cases n <;> cases m <;> rfl

@[simp] theorem NvStore.pages_setPages (x : SlotPages) : (v.setPages n x).pages m = if m = n then x else v.pages m := by
  cases n <;> cases m <;> rfl

@[simp] theorem NvStore.status_setPages (x : SlotPages) : (v.setPages n x).status m = v.status m := by
  cases n <;> cases m <;> rfl

@[simp] theorem NvStore.op_setPages (x : SlotPages) : (v.setPages n x).op = v.op := by cases n <;> rfl

@[simp] theorem NvStore.pagesWritten_setPages (x : SlotPages) : (v.setPages n x).pagesWritten = v.pagesWritten := by
  cases n <;> rfl

@[simp] theorem NvStore.pagesWritten_setStatus (x : SlotStatus) : (v.setStatus n x).pagesWritten = v.pagesWritten := by
  cases n <;> rfl

end

/-- R129: the newest valid slot is valid, and no valid slot is of a later generation. -/
theorem newestValid_eq_some {v : NvStore} {slot : SlotName} (h : newestValid v.statusA v.statusB = some slot) :
    (v.status slot).valid = true
      ∧ ∀ n, (v.status n).valid = true → (v.status n).generation.toNat ≤ (v.status slot).generation.toNat := by
  unfold newestValid at h
  cases a : v.statusA.valid <;> cases b : v.statusB.valid <;> simp only [a, b] at h
  · cases h
  · cases h
    exact ⟨b, fun n hn => by cases n; exacts [absurd hn (by simp [NvStore.status, a]), le_rfl]⟩
  · cases h
    exact ⟨a, fun n hn => by cases n; exacts [le_rfl, absurd hn (by simp [NvStore.status, b])]⟩
  · split_ifs at h with later
    · cases h
      exact ⟨b, fun n _ => by cases n; exacts [later.le, le_rfl]⟩
    · cases h
      exact ⟨a, fun n _ => by cases n; exacts [le_rfl, Nat.le_of_not_lt later]⟩

theorem newestValid_eq_none {v : NvStore} (h : newestValid v.statusA v.statusB = none) (n : SlotName) :
    (v.status n).valid = false := by
  unfold newestValid at h
  cases a : v.statusA.valid <;> cases b : v.statusB.valid <;> simp only [a, b] at h
  · cases n; exacts [a, b]
  · cases h
  · cases h
  · split_ifs at h

/-- R130: the slot to write stays the one to write once it is invalid. -/
theorem slotToWrite_invalidated (a b : SlotStatus) :
    (slotToWrite a b = .a → slotToWrite invalidSlot b = .a) ∧ (slotToWrite a b = .b → slotToWrite a invalidSlot = .b) := by
  unfold slotToWrite newestValid
  cases a.valid <;> cases b.valid <;> simp [invalidSlot]

end Sys2Proof.Machine

/-! What every step keeps: the active profile is good, and slots and operation are not ahead of it (R104, R120, R130 to R133). -/

namespace Sys2Proof.Machine

/-- R130, R132: no slot and no operation in flight is of a later generation than `g`, and no slot of a later one than the
operation's snapshot. -/
structure NvStore.NotAhead (v : NvStore) (g : W32) : Prop where
  slots : ∀ n, (v.status n).generation.toNat ≤ g.toNat
  flight : ∀ o, v.op = some o → o.snapshot.generation.toNat ≤ g.toNat
    ∧ ∀ n, (v.status n).generation.toNat ≤ o.snapshot.generation.toNat

theorem NvStore.NotAhead.later {v : NvStore} {g h : W32} (ahead : v.NotAhead g) (le : g.toNat ≤ h.toNat) : v.NotAhead h :=
  ⟨fun n => (ahead.slots n).trans le, fun o op => ⟨(ahead.flight o op).1.trans le, (ahead.flight o op).2⟩⟩

/-- Profiles are in order by the active profile, the staged copy and the Nonvolatile Store alone. -/
theorem State.profilesOk_iff (s : State) : s.ProfilesOk ↔
    s.store.active.Good ∧ (∀ p, s.store.staged = some p → p.inRange = true) ∧ s.nv.Ok
      ∧ s.nv.NotAhead s.store.active.generation :=
  ⟨fun h => ⟨h.active, h.staged, h.nv, h.slots, h.flight⟩, fun ⟨a, b, c, d⟩ => ⟨a, b, c, d.slots, d.flight⟩⟩

theorem noneStaged (p : Profile) (staged : none = some p) : p.inRange = true := (Option.some_ne_none p staged.symm).elim

section

variable {s t : State}

theorem State.ProfilesOk.notAhead (h : s.ProfilesOk) : s.nv.NotAhead s.store.active.generation := ⟨h.slots, h.flight⟩

theorem State.ProfilesOk.congr (h : s.ProfilesOk) (active : t.store.active = s.store.active)
    (staged : t.store.staged = s.store.staged) (nv : t.nv = s.nv) : t.ProfilesOk := by
  rw [State.profilesOk_iff] at h ⊢
  rwa [active, staged, nv]

/-- R118: an edit closed. -/
theorem State.ProfilesOk.closed (h : s.ProfilesOk) (active : t.store.active = s.store.active) (staged : t.store.staged = none)
    (nv : t.nv = s.nv) : t.ProfilesOk := by
  rw [State.profilesOk_iff] at h ⊢
  rw [active, staged, nv]
  exact ⟨h.1, noneStaged, h.2.2⟩

theorem State.Reports.profilesOk (told : s.Reports t) (h : s.ProfilesOk) : t.ProfilesOk :=
  h.congr (by rw [told.store]) (by rw [told.store]) told.nv

theorem State.ProfilesOk.closesEdit (h : s.ProfilesOk) (cause : EditCause) : (s.closeEdit cause).ProfilesOk := by
  unfold State.closeEdit
  split
  · exact h.closed rfl rfl rfl
  · exact h

end

/-! ## The store -/

theorem NvStore.Ok.invalid_toNat {v : NvStore} (h : v.Ok) {n : SlotName} (off : (v.status n).valid = false) :
    (v.status n).generation.toNat = 0 := by
  rw [h.invalid n off]
  rfl

/-- R128: a store with no operation in flight. -/
theorem NvStore.Ok.of_idle {v : NvStore} (idle : v.op = none)
    (valid : ∀ n, (v.status n).valid = true → (v.pages n).valid = true ∧ (v.pages n).generation = (v.status n).generation)
    (invalid : ∀ n, (v.status n).valid = false → (v.status n).generation = 0) (written : v.pagesWritten ≤ 9) : v.Ok := by
  have still : ∀ o, v.op ≠ some o := fun o op => Option.some_ne_none o (op.symm.trans idle)
  exact ⟨valid, invalid, fun o op => absurd op (still o), fun o op => absurd op (still o), fun o op => absurd op (still o),
    fun o op => absurd op (still o), written⟩

theorem NvStore.NotAhead.of_idle {v : NvStore} {g : W32} (idle : v.op = none)
    (slots : ∀ n, (v.status n).generation.toNat ≤ g.toNat) : v.NotAhead g :=
  ⟨slots, fun o op => (Option.some_ne_none o (op.symm.trans idle)).elim⟩

/-- R128: after a full reset no slot is valid and no operation is in flight. -/
theorem nvAtReset_ok (a b : SlotPages) : (nvAtReset a b).Ok ∧ ∀ g, (nvAtReset a b).NotAhead g := by
  have invalid : ∀ n, (nvAtReset a b).status n = invalidSlot := fun n => by cases n <;> rfl
  exact ⟨.of_idle rfl (fun n on => absurd on (by simp [invalid n, invalidSlot])) (fun n _ => by rw [invalid n]; rfl) (Nat.zero_le _),
    fun _ => .of_idle rfl fun n => by rw [invalid n]; exact Nat.zero_le _⟩

theorem Timer.elapse_ne_stopped {t : Timer} (h : t ≠ .stopped) (d : Nat) : t.elapse d ≠ .stopped := by
  cases t with
  | stopped => exact absurd rfl h
  | running left => nofun

theorem Timer.running_ne_stopped (left : Nat) : Timer.running left ≠ .stopped := nofun

theorem NvStore.Ok.elapse {v : NvStore} (h : v.Ok) (d : Nat) :
    ({ v with op := v.op.map fun o => { o with write := o.write.elapse d } } : NvStore).Ok where
  valid := h.valid
  invalid := h.invalid
  target := fun o op => by
    obtain ⟨was, before, rfl⟩ := Option.map_eq_some_iff.mp op
    exact h.target was before
  page := fun o op => by
    obtain ⟨was, before, rfl⟩ := Option.map_eq_some_iff.mp op
    obtain ⟨page, most, write⟩ := h.page was before
    exact ⟨page, most, Timer.elapse_ne_stopped write d⟩
  header := fun o op => by
    obtain ⟨was, before, rfl⟩ := Option.map_eq_some_iff.mp op
    exact h.header was before
  snapshot := fun o op => by
    obtain ⟨was, before, rfl⟩ := Option.map_eq_some_iff.mp op
    exact h.snapshot was before
  pagesWritten := h.pagesWritten

theorem State.ProfilesOk.elapse {s : State} (h : s.ProfilesOk) (d : Nat) : (s.elapse d).ProfilesOk := by
  refine (State.profilesOk_iff _).mpr ⟨h.active, h.staged, h.nv.elapse d, h.slots, fun o op => ?_⟩
  obtain ⟨was, before, rfl⟩ := Option.map_eq_some_iff.mp op
  exact h.flight was before

/-! ## Persistence -/

section

variable (v : NvStore) (active : Profile) (n : SlotName)

@[simp] theorem NvStore.startPersist_status : (v.startPersist active).status n =
    if n = slotToWrite v.statusA v.statusB then invalidSlot else v.status n := by
  have kept : (v.startPersist active).status n = ((v.setStatus (slotToWrite v.statusA v.statusB) invalidSlot).setPages
      (slotToWrite v.statusA v.statusB) { v.pages (slotToWrite v.statusA v.statusB) with completionMark := false }).status n := by
    cases n <;> rfl
  rw [kept, NvStore.status_setPages, NvStore.status_setStatus]

theorem NvStore.startPersist_pages (other : n ≠ slotToWrite v.statusA v.statusB) : (v.startPersist active).pages n = v.pages n := by
  have kept : (v.startPersist active).pages n = ((v.setStatus (slotToWrite v.statusA v.statusB) invalidSlot).setPages
      (slotToWrite v.statusA v.statusB) { v.pages (slotToWrite v.statusA v.statusB) with completionMark := false }).pages n := by
    cases n <;> rfl
  rw [kept, NvStore.pages_setPages, if_neg other, NvStore.pages_setStatus]

/-- R129, R130: the slot an operation writes is the slot to write, and stays it. -/
theorem NvStore.startPersist_slotToWrite :
    slotToWrite (v.startPersist active).statusA (v.startPersist active).statusB = slotToWrite v.statusA v.statusB := by
  obtain ⟨a, b⟩ := slotToWrite_invalidated v.statusA v.statusB
  cases slot : slotToWrite v.statusA v.statusB with
  | a => simpa [NvStore.startPersist, slot, NvStore.setStatus, NvStore.setPages] using a slot
  | b => simpa [NvStore.startPersist, slot, NvStore.setStatus, NvStore.setPages] using b slot

end

/-- R130: an operation of a good profile starts. -/
theorem NvStore.Ok.startPersist {v : NvStore} (h : v.Ok) {active : Profile} (good : active.Good) (ahead : v.NotAhead active.generation) :
    (v.startPersist active).Ok ∧ (v.startPersist active).NotAhead active.generation := by
  have statusLe : ∀ n, ((v.startPersist active).status n).generation.toNat ≤ active.generation.toNat := by
    intro n
    rw [NvStore.startPersist_status]
    split
    · exact Nat.zero_le _
    · exact ahead.slots n
  refine ⟨⟨fun n on => ?_, fun n off => ?_, ?_, ?_, ?_, ?_, Nat.zero_le _⟩, ⟨statusLe, ?_⟩⟩
  · rw [NvStore.startPersist_status] at on ⊢
    split_ifs at on with same
    · exact absurd on (by decide)
    · rw [if_neg same, v.startPersist_pages active n same]
      exact h.valid n on
  · rw [NvStore.startPersist_status] at off ⊢
    split_ifs at off ⊢
    · rfl
    · exact h.invalid n off
  · rintro o ⟨⟩
    exact ⟨(v.startPersist_slotToWrite active).symm, by simp [invalidSlot]⟩
  · rintro o ⟨⟩
    exact ⟨rfl, Nat.one_le_ofNat, Timer.running_ne_stopped _⟩
  · rintro o ⟨⟩ ⟨⟩
  · rintro o ⟨⟩
    exact good
  · rintro o ⟨⟩
    exact ⟨le_rfl, statusLe⟩

theorem State.ProfilesOk.startPersist {s : State} (h : s.ProfilesOk) : s.startPersist.ProfilesOk := by
  obtain ⟨ok, ahead⟩ := h.nv.startPersist h.active h.notAhead
  exact (State.profilesOk_iff _).mpr ⟨h.active, h.staged, ok, ahead⟩

section

variable {v : NvStore} {o : PersistOp} {w : Timer}

@[simp] theorem NvStore.nextPage_status (v : NvStore) (o : PersistOp) (n : SlotName) : (v.nextPage o).status n = v.status n := by
  have kept : (v.nextPage o).status n = (v.setPages o.target ((v.pages o.target).written o.page o.snapshot)).status n := by
    cases n <;> rfl
  rw [kept, NvStore.status_setPages]

@[simp] theorem NvStore.nextPage_pages (v : NvStore) (o : PersistOp) (n : SlotName) : (v.nextPage o).pages n =
    if n = o.target then (v.pages o.target).written o.page o.snapshot else v.pages n := by
  have kept : (v.nextPage o).pages n = (v.setPages o.target ((v.pages o.target).written o.page o.snapshot)).pages n := by
    cases n <;> rfl
  rw [kept, NvStore.pages_setPages]

@[simp] theorem NvStore.done_status (v : NvStore) (o : PersistOp) (n : SlotName) : (v.done o).status n =
    if n = o.target then ⟨true, o.snapshot.generation⟩ else v.status n := by
  have kept : (v.done o).status n = ((v.setPages o.target ((v.pages o.target).written o.page o.snapshot)).setStatus o.target
      ⟨true, o.snapshot.generation⟩).status n := by cases n <;> rfl
  rw [kept, NvStore.status_setStatus, NvStore.status_setPages]

@[simp] theorem NvStore.done_pages (v : NvStore) (o : PersistOp) (n : SlotName) : (v.done o).pages n =
    if n = o.target then (v.pages o.target).written o.page o.snapshot else v.pages n := by
  have kept : (v.done o).pages n = ((v.setPages o.target ((v.pages o.target).written o.page o.snapshot)).setStatus o.target
      ⟨true, o.snapshot.generation⟩).pages n := by cases n <;> rfl
  rw [kept, NvStore.pages_setStatus, NvStore.pages_setPages]

@[simp] theorem NvStore.failed_status (v : NvStore) (o : PersistOp) (n : SlotName) : (v.failed o).status n =
    if n = o.target then invalidSlot else v.status n := by
  have kept : (v.failed o).status n = ((v.setPages o.target { v.pages o.target with checkMatches := false, completionMark := false }).setStatus
      o.target invalidSlot).status n := by cases n <;> rfl
  rw [kept, NvStore.status_setStatus, NvStore.status_setPages]

@[simp] theorem NvStore.failed_pages (v : NvStore) (o : PersistOp) (n : SlotName) : (v.failed o).pages n =
    if n = o.target then { v.pages o.target with checkMatches := false, completionMark := false } else v.pages n := by
  have kept : (v.failed o).pages n = ((v.setPages o.target { v.pages o.target with checkMatches := false, completionMark := false }).setStatus
      o.target invalidSlot).pages n := by cases n <;> rfl
  rw [kept, NvStore.pages_setStatus, NvStore.pages_setPages]

theorem NvStore.nextPage_statusA (v : NvStore) (o : PersistOp) : (v.nextPage o).statusA = v.statusA := v.nextPage_status o .a
theorem NvStore.nextPage_statusB (v : NvStore) (o : PersistOp) : (v.nextPage o).statusB = v.statusB := v.nextPage_status o .b

/-- R131: the next page begins; the slot written is invalid, so that its pages may be anything. -/
theorem NvStore.Ok.nextPage (h : v.Ok) (op : v.op = some { o with write := w }) (more : o.page < 9) : (v.nextPage o).Ok := by
  obtain ⟨target, off⟩ := h.target _ op
  obtain ⟨page, _, _⟩ := h.page _ op
  refine ⟨fun n on => ?_, fun n off => ?_, ?_, ?_, ?_, ?_, ?_⟩
  · rw [NvStore.nextPage_status] at on ⊢
    rw [NvStore.nextPage_pages, if_neg (by rintro rfl; rw [off] at on; cases on)]
    exact h.valid n on
  · rw [NvStore.nextPage_status] at off ⊢
    exact h.invalid n off
  · rintro _ ⟨⟩
    rw [NvStore.nextPage_statusA, NvStore.nextPage_statusB, NvStore.nextPage_status]
    exact ⟨target, off⟩
  · rintro _ ⟨⟩
    exact ⟨congrArg (· + 1) page, more, Timer.running_ne_stopped _⟩
  · rintro _ ⟨⟩ last
    have eighth : o.page + 1 = 9 := last
    rw [NvStore.nextPage_pages, if_pos rfl]
    simp [SlotPages.written, Config.pageCount, eighth, more.ne]
  · rintro _ ⟨⟩
    exact (h.snapshot _ op :)
  · show v.pagesWritten + 1 ≤ 9
    have counted : o.page = v.pagesWritten + 1 := page
    omega

/-- R132: the ninth page completes a valid slot. -/
theorem NvStore.Ok.done (h : v.Ok) (op : v.op = some { o with write := w }) (last : o.page = 9) : (v.done o).Ok := by
  obtain ⟨page, _, _⟩ := h.page _ op
  have whole : ((v.pages o.target).written o.page o.snapshot).valid = true := by
    rw [SlotPages.valid_iff]
    simp only [SlotPages.written, Config.pageCount, last, if_true, Config.imageFormat, h.header _ op last]
    exact ⟨trivial, trivial, trivial, (h.snapshot _ op :)⟩
  refine .of_idle rfl (fun n on => ?_) (fun n off => ?_) ?_
  · rw [NvStore.done_status] at on ⊢
    rw [NvStore.done_pages]
    split_ifs at on ⊢
    · exact ⟨whole, by simp [SlotPages.written, Config.pageCount, last]⟩
    · exact h.valid n on
  · rw [NvStore.done_status] at off ⊢
    split_ifs at off ⊢
    exact h.invalid n off
  · show v.pagesWritten + 1 ≤ 9
    have counted : o.page = v.pagesWritten + 1 := page
    omega

/-- R133: a page whose read-back differs leaves the slot invalid. -/
theorem NvStore.Ok.failed (h : v.Ok) : (v.failed o).Ok := by
  refine .of_idle rfl (fun n on => ?_) (fun n off => ?_) ?_
  · rw [NvStore.failed_status] at on ⊢
    rw [NvStore.failed_pages]
    split_ifs at on ⊢
    · exact absurd on (by decide)
    · exact h.valid n on
  · rw [NvStore.failed_status] at off ⊢
    split_ifs at off ⊢
    · rfl
    · exact h.invalid n off
  · simpa [NvStore.failed] using h.pagesWritten

/-- R131 to R133: the operation goes on, or ends. -/
theorem State.ProfilesOk.pageCompletes {s : State} (h : s.ProfilesOk) (op : s.nv.op = some { o with write := w }) (matched : Bool) :
    (s.pageCompletes o matched).ProfilesOk := by
  obtain ⟨snapshotLe, statusLe⟩ := h.flight _ op
  unfold State.pageCompletes
  split_ifs with differs more
  · refine (State.profilesOk_iff _).mpr ⟨h.active, h.staged, h.nv.failed, .of_idle rfl fun n => ?_⟩
    show ((s.nv.failed o).status n).generation.toNat ≤ _
    rw [NvStore.failed_status]
    split
    · exact Nat.zero_le _
    · exact h.slots n
  · refine (State.profilesOk_iff _).mpr ⟨h.active, h.staged, h.nv.nextPage op more, fun n => ?_, ?_⟩
    · show ((s.nv.nextPage o).status n).generation.toNat ≤ _
      rw [NvStore.nextPage_status]
      exact h.slots n
    · rintro _ ⟨⟩
      refine ⟨snapshotLe, fun n => ?_⟩
      show ((s.nv.nextPage o).status n).generation.toNat ≤ _
      rw [NvStore.nextPage_status]
      exact statusLe n
  · have last : o.page = 9 := le_antisymm (h.nv.page _ op).2.1 (Nat.le_of_not_lt more)
    refine (State.profilesOk_iff _).mpr ⟨h.active, h.staged, h.nv.done op last, .of_idle rfl fun n => ?_⟩
    show ((s.nv.done o).status n).generation.toNat ≤ _
    rw [NvStore.done_status]
    split
    · exact snapshotLe
    · exact h.slots n

end

/-! ## Installing a profile -/

/-- R121 step 1: the next generation is the later one. -/
theorem later_generation {g : W32} (more : g ≠ 4294967295) : (g + 1).toNat = g.toNat + 1 := by
  bv_omega

theorem State.ProfilesOk.commit {s : State} (h : s.ProfilesOk) {p : Profile} (staged : s.store.staged = some p)
    (more : s.store.active.generation ≠ 4294967295) (passes : firstFailure p s.isRunning = none) : (s.commit p).ProfilesOk := by
  refine (s.commit_reports p).profilesOk ((State.profilesOk_iff _).mpr ⟨?_, noneStaged, h.nv, h.notAhead.later ?_⟩)
  · exact (Profile.good_of_passes (h.staged p staged) passes).withGeneration _
  · show _ ≤ (s.store.active.generation + 1).toNat
    rw [later_generation more]
    exact Nat.le_succ _

/-- R126, R127: the image of a valid slot is a good profile of the slot's generation. -/
theorem NvStore.image_good {v : NvStore} {n : SlotName} (valid : (v.pages n).valid = true) : (v.image n).Good :=
  ((SlotPages.valid_iff _).mp valid).2.2.2.withGeneration _

/-- R129: no slot is of a later generation than the newest valid one. -/
theorem NvStore.Ok.le_newest {v : NvStore} (h : v.Ok) {slot : SlotName} (newest : newestValid v.statusA v.statusB = some slot)
    (n : SlotName) : (v.status n).generation.toNat ≤ (v.status slot).generation.toNat := by
  cases valid : (v.status n).valid with
  | true => exact (newestValid_eq_some newest).2 n valid
  | false => exact (h.invalid_toNat valid).trans_le (Nat.zero_le _)

theorem State.ProfilesOk.revert {s : State} (h : s.ProfilesOk) {slot : SlotName} (idle : s.nv.op = none)
    (newest : newestValid s.nv.statusA s.nv.statusB = some slot) : (s.install (s.nv.image slot)).ProfilesOk := by
  obtain ⟨pages, generation⟩ := h.nv.valid slot (newestValid_eq_some newest).1
  refine (State.install_reports s _).profilesOk ((State.profilesOk_iff _).mpr
    ⟨NvStore.image_good pages, h.staged, h.nv, .of_idle idle fun n => ?_⟩)
  show _ ≤ (s.nv.pages slot).generation.toNat
  rw [generation]
  exact h.nv.le_newest newest n

/-! ## Recall (R127, R140) -/

theorem NvStore.judged_status (v : NvStore) (n : SlotName) : v.judged.status n = judgeSlot (v.pages n) := by cases n <;> rfl

theorem NvStore.judged_pages (v : NvStore) (n : SlotName) : v.judged.pages n = v.pages n := by cases n <;> rfl

/-- R127: a slot judged is valid under the generation of its header, or invalid with generation 0. -/
theorem NvStore.judged_ok {v : NvStore} (idle : v.op = none) (written : v.pagesWritten ≤ 9) : v.judged.Ok := by
  refine .of_idle idle (fun n on => ?_) (fun n off => ?_) written
  · rw [NvStore.judged_status] at on ⊢
    rw [NvStore.judged_pages]
    unfold judgeSlot at on ⊢
    split_ifs at on ⊢ with valid
    · exact ⟨valid, rfl⟩
    · exact absurd on (by decide)
  · rw [NvStore.judged_status] at off ⊢
    unfold judgeSlot at off ⊢
    split_ifs at off ⊢
    rfl

/-- R140: recall installs a good profile, and no slot is of a later generation. -/
theorem NvStore.recall_good {v : NvStore} (idle : v.op = none) (written : v.pagesWritten ≤ 9) :
    v.recall.2.Good ∧ v.judged.NotAhead v.recall.2.generation := by
  have ok := v.judged_ok idle written
  unfold NvStore.recall
  split
  case h_3 _ none =>
    refine ⟨factoryProfile_good, .of_idle idle fun n => ?_⟩
    exact (ok.invalid_toNat (newestValid_eq_none none n)).trans_le (Nat.zero_le _)
  all_goals
    rename_i slot
    obtain ⟨valid, generation⟩ := ok.valid _ (newestValid_eq_some slot).1
    refine ⟨NvStore.image_good valid, .of_idle idle fun n => ?_⟩
    exact (ok.le_newest slot n).trans_eq (congrArg BitVec.toNat generation).symm

/-! ## Every step -/

theorem State.ProfilesOk.fullReset (s : State) (cause : ResetCause) : (s.fullReset cause).ProfilesOk :=
  (State.profilesOk_iff _).mpr ⟨factoryProfile_good, noneStaged, (nvAtReset_ok _ _).1, (nvAtReset_ok _ _).2 _⟩

theorem State.HeldUntilRecall.nv_idle {s : State} (held : s.HeldUntilRecall) (recalling : s.startup.phase = .recalling) :
    s.nv.op = none ∧ s.nv.pagesWritten ≤ 9 := by
  rw [held.nv (by rw [recalling]; nofun)]
  exact ⟨rfl, Nat.zero_le _⟩

theorem State.ProfilesOk.recallEnds {s : State} (idle : s.nv.op = none) (written : s.nv.pagesWritten ≤ 9) :
    s.recallEnds.ProfilesOk := by
  obtain ⟨good, ahead⟩ := NvStore.recall_good idle written
  exact s.recallEnds_reports.profilesOk ((State.profilesOk_iff _).mpr ⟨good, noneStaged, NvStore.judged_ok idle written, ahead⟩)

theorem State.Serves.profilesOk {s t : State} {r : RequestName} (served : s.Serves r t) (h : s.ProfilesOk) : t.ProfilesOk := by
  cases served with
  | nothing | codeWrong | noticeMask | ackNotices | resetPart | clearLog => exact h.congr rfl rfl rfl
  | hello =>
    unfold State.hello
    split_ifs
    · exact State.ProfilesOk.congr (State.ProfilesOk.closesEdit (s := s.emptyCache) (h.congr rfl rfl rfl) .level) rfl rfl rfl
    · exact h.congr rfl rfl rfl
  | bye => exact (h.closesEdit .bye).congr rfl rfl rfl
  | grants =>
    unfold State.grantLevel
    dsimp only
    split_ifs
    · exact h.congr rfl rfl rfl
    · refine State.ProfilesOk.closesEdit ?_ .level
      exact h.congr rfl rfl rfl
  | codeRight => exact h.congr rfl rfl rfl
  | enable mask => exact (overMask_reports s enableChan_reports mask).profilesOk h
  | disable mask => exact (overMask_reports s disableChan_reports mask).profilesOk h
  | clear mask => exact (overMask_reports s clearChan_reports mask).profilesOk h
  | softHold mask on => exact (overMask_reports s (softHoldChan_reports on) mask).profilesOk h
  | openEdit => exact (State.profilesOk_iff _).mpr ⟨h.active, by rintro _ ⟨⟩; exact h.active.ranges, h.nv, h.notAhead⟩
  | abandonEdit => exact h.closed rfl rfl rfl
  | put _ staged taken =>
    exact (State.profilesOk_iff _).mpr
      ⟨h.active, by rintro _ ⟨⟩; exact stagedAfter_inRange (h.staged _ staged) taken, h.nv, h.notAhead⟩
  | commit staged more passes => exact h.commit staged more passes
  | commitPersist staged more passes => exact (h.commit staged more passes).startPersist
  | persist => exact h.startPersist
  | revert _ _ idle newest => exact h.revert idle newest

theorem State.Works.profilesOk {s t : State} (work : s.Works t) (h : s.ProfilesOk) : t.ProfilesOk := by
  cases work with
  | nothing => exact h
  | elapses d => exact h.elapse d
  | serves _ _ _ served => exact served.profilesOk h
  | startsAck => exact h.congr rfl rfl rfl
  | ackExpires | lockoutExpires => exact (h.elapse _).congr rfl rfl rfl
  | editIdleExpires => exact (h.elapse _).closesEdit .timeout
  | holdPin n asserted => exact (s.holdPinTaken_reports n asserted).profilesOk (h.congr rfl rfl rfl)
  | blankingExpires => exact (State.blankingExpires_reports _ _).profilesOk (h.elapse _)
  | stableExpires => exact (State.stableExpires_reports _ _).profilesOk (h.elapse _)
  | retryExpires => exact (State.retryExpires_reports _ _).profilesOk (h.elapse _)
  | rampTick => exact (State.rampTick_reports _ _).profilesOk (h.elapse _)
  | takesConfirmation => exact (s.takeConfirmation_reports _ _).profilesOk h
  | scanStep => exact (s.scanStep_reports _).profilesOk h
  | conversionCompletes => exact (State.conversionCompletes_reports _ _).profilesOk (h.elapse _)
  | pageCompletes op =>
    rename_i o _
    exact (h.elapse _).pageCompletes (w := o.write.elapse o.write.remaining) (congrArg (Option.map _) op) _

theorem State.linkReset_profilesOk {s : State} (h : s.ProfilesOk) : s.linkReset.ProfilesOk :=
  State.ProfilesOk.congr (State.ProfilesOk.closesEdit (h.congr rfl rfl rfl : (s.withLink s.link.afterLinkReset).ProfilesOk) .linkReset)
    rfl rfl rfl

theorem profilesOk_kept : KeptWhileHeld State.ProfilesOk where
  queue := fun _ _ h => h.congr rfl rfl rfl
  lines := fun lines h => h.congr (by rw [lines.store]) (by rw [lines.store]) lines.nv
  works := fun _ work h => work.profilesOk h
  resets := fun held reset h => by
    cases reset with
    | link => exact State.linkReset_profilesOk (h.elapse _)
    | request => exact (State.ProfilesOk.fullReset _ .request).congr rfl rfl rfl
    | supply => exact (State.ProfilesOk.fullReset _ .power).congr rfl rfl rfl
    | pin => exact State.ProfilesOk.congr (State.ProfilesOk.fullReset _ .power) rfl rfl rfl
    | released => exact h.congr rfl rfl rfl
    | recallEnds recalling =>
      obtain ⟨idle, written⟩ := held.nv_idle recalling
      exact State.ProfilesOk.recallEnds (congrArg (Option.map _) idle) written

/-- Settles O58: on the channels a step is work that leaves the store alone; beyond it the store installs profiles that passed
the checks, and the pages of a slot change only while that slot is invalid. -/
theorem theActiveProfileStaysGood : Obligations.TheActiveProfileStaysGood :=
  fun _ _ held profiles stepped => (profilesOk_kept.step held profiles stepped).2

end Sys2Proof.Machine

/-! The outcomes of the works that go over all channels: the evaluation of wait reasons (R8), a lost supply (R27), the trips on
over-temperature (R28) and the start (R190). -/

namespace Sys2Proof.Machine

/-! ## What views and notices of a channel consult -/

/-- What the entries, trips and wait reasons of a channel consult besides the channel itself. -/
structure State.SameGround (s t : State) : Prop where
  active : t.store.active = s.store.active
  uptime : t.startup.uptime = s.startup.uptime
  targets : t.targets = s.targets
  waits : ∀ n, t.waitReasons n = s.waitReasons n
  band : t.seq.band = s.seq.band
  temperature : t.seq.records.temp.smoothed = s.seq.records.temp.smoothed

theorem State.SameElsewhere.ground {s t : State} (h : s.SameElsewhere t) : s.SameGround t where
  active := by rw [h.store]
  uptime := by rw [h.startup]
  targets := h.targets
  waits := h.waitReasons
  band := h.conditions.2.1
  temperature := by rw [h.records.1]

section

variable {s t : State} (h : s.SameGround t) (n : Chan) (v : ChanView)
include h

theorem State.SameGround.symm : t.SameGround s :=
  ⟨h.active.symm, h.uptime.symm, h.targets.symm, fun n => (h.waits n).symm, h.band.symm, h.temperature.symm⟩

theorem State.SameGround.trans {u : State} (k : t.SameGround u) : s.SameGround u :=
  ⟨k.active.trans h.active, k.uptime.trans h.uptime, k.targets.trans h.targets, fun n => (k.waits n).trans (h.waits n),
    k.band.trans h.band, k.temperature.trans h.temperature⟩

theorem State.SameGround.prof : t.prof n = s.prof n := by rw [State.prof, h.active, State.prof]

theorem State.SameGround.follow (path : Path) : t.follow n v path = s.follow n v path := by
  simp only [State.follow, h.prof n, h.uptime, h.waits n]

theorem State.SameGround.readyPath (st : ChState) (cause : Cause) : t.readyPath n st cause = s.readyPath n st cause := by
  simp only [State.readyPath, h.waits n]

theorem State.SameGround.evaluated (cause : Cause) : t.evaluated n v cause = s.evaluated n v cause := by
  simp only [State.evaluated, h.readyPath, h.waits n, h.follow]

theorem State.SameGround.heated (number : BitVec 16) : t.heated n v number = s.heated n v number := by
  simp only [State.heated, h.prof n, h.follow]

theorem State.SameGround.heatRecord (number : BitVec 16) : t.heatRecord n v number = s.heatRecord n v number := by
  simp only [State.heatRecord, h.prof n, h.uptime, h.targets, h.temperature, h.band, h.active]

theorem State.SameGround.heatNotices (number : BitVec 16) : t.heatNotices n v number = s.heatNotices n v number := by
  simp only [State.heatNotices, h.prof n, h.waits n]

end

/-! ## Outcomes -/

/-- A move along a path that depends on the channel alone. -/
theorem hasOutcome_of_moves {work : State → Chan → State} {path : State → Chan → Path}
    (moves : ∀ (s : State) (n : Chan), s.MovesOnly (work s n) n (s.view n) (path s n)) (depends : DependsOnView path) :
    HasOutcome work (fun s n _ => s.pathOutcome n (s.view n) (path s n)) fun _ _ => false where
  acts := fun s n => (moves s n).acts
  depends := fun s t n _ h hv => by
    simp only [State.pathOutcome, hv, depends s t n h hv, h.follow, State.noticesOf_congr h hv]
  counts := fun _ _ _ => rfl

theorem readyOutcome_dependsOnView (cause : Cause) : DependsOnView fun s n => s.readyOutcome n cause := fun s t n h hv => by
  simp only [State.readyOutcome, hv, State.chan_eq_of_view hv, h.ground.evaluated, h.ground.readyPath,
    State.noticesOf_congr h hv]

theorem reevaluate_hasOutcome (cause : Cause) :
    HasOutcome (fun s n => s.reevaluate n cause) (fun s n _ => s.readyOutcome n cause) fun _ _ => false where
  acts := fun s n => s.reevaluate_acts n cause
  depends := fun s t n _ h hv => readyOutcome_dependsOnView cause s t n h hv
  counts := fun _ _ _ => rfl

theorem supplyLostPath_dependsOnView : DependsOnView State.supplyLostPath := fun s t n h hv => by
  simp only [State.supplyLostPath, State.chan_eq_of_view hv, h.qualifyPath]

theorem supplyLost_hasOutcome :
    HasOutcome State.supplyLost (fun s n _ => s.pathOutcome n (s.view n) (s.supplyLostPath n)) fun _ _ => false :=
  hasOutcome_of_moves State.supplyLost_movesOnly supplyLostPath_dependsOnView

theorem supplyChanged_hasOutcome : HasOutcome State.supplyChanged (fun s n _ => s.supplyOutcome n) fun _ _ => false where
  acts := State.supplyChanged_acts
  depends := fun s t n _ h hv => by
    simp only [State.supplyOutcome, State.chan_eq_of_view hv, h.conditions, State.idleOutcome, hv, State.pathOutcome, h.follow,
      supplyLostPath_dependsOnView s t n h hv, State.noticesOf_congr h hv, readyOutcome_dependsOnView .ready s t n h hv]
  counts := fun s n _ => by
    unfold State.supplyOutcome
    rw [if_neg Bool.false_ne_true]
    split_ifs <;> rfl

/-- R30: the path of a start-enabled channel. -/
def State.startPath (s : State) (n : Chan) : Path := if (s.prof n).startEnabled then s.wantedPath n .start else []

theorem State.startChannel_movesOnly (s : State) (n : Chan) : s.MovesOnly (s.startChannel n) n (s.view n) (s.startPath n) := by
  unfold State.startChannel State.startPath
  split_ifs
  · exact s.startWanted_movesOnly n .start
  · exact .refl s n

theorem startChannel_hasOutcome :
    HasOutcome State.startChannel (fun s n _ => s.pathOutcome n (s.view n) (s.startPath n)) fun _ _ => false :=
  hasOutcome_of_moves State.startChannel_movesOnly fun s t n h hv => by
    simp only [State.startPath, h.prof n, h.wantedPath hv]

/-! ## Trips on over-temperature (R28) -/

/-- R28: the outcome of the OT trip of a channel that takes trips. -/
def State.heatOutcome (s : State) (n : Chan) (number : BitVec 16) : ChanOutcome :=
  if (s.channels.get n).state.takesTrips then
    ⟨s.heated n (s.view n) number, s.heatNotices n (s.view n) number, [s.heatRecord n (s.view n) number]⟩
  else s.idleOutcome n

theorem tripPath_ot (a : Action) : tripPath .ot a = a.heatPath := by cases a <;> rfl

theorem State.heatOutcome_eq (s : State) (n : Chan) (number : BitVec 16) : s.tripOutcome n .ot number = s.heatOutcome n number := by
  have action : s.tripAction n .ot = (s.view n).heatAction (s.prof n) := rfl
  unfold State.tripOutcome State.heatOutcome
  rw [action, tripPath_ot]
  have snapshot : s.snapshot n = if (s.view n).marks.cur ∧ (s.view n).marks.fwd ∧ (s.view n).marks.ref then
      some ⟨(s.view n).points.cur.smoothed, (s.view n).points.fwd.smoothed, (s.view n).points.ref.smoothed⟩ else none := by
    simp only [State.snapshot, Bool.and_eq_true, and_assoc]
    rfl
  have record : { s.tripRecord n .ot ((s.view n).heatAction (s.prof n)) with number := number }
      = s.heatRecord n (s.view n) number := by
    simp only [State.tripRecord, snapshot]
    rfl
  rw [record]
  rfl

/-- Whether channel `n` takes a trip. -/
def State.takes (s : State) (n : Chan) : Bool := (s.channels.get n).state.takesTrips

theorem takeHeat_hasOutcome : HasOutcome (fun s n => s.takeTrip n .ot) State.heatOutcome State.takes where
  acts := fun s n => s.heatOutcome_eq n s.log.next ▸ s.takeTrip_acts n .ot
  depends := fun s t n k h hv => by
    simp only [State.heatOutcome, State.chan_eq_of_view hv, hv, h.ground.heated, h.ground.heatNotices, h.ground.heatRecord,
      State.idleOutcome]
  counts := fun s n k => by
    cases takes : (s.channels.get n).state.takesTrips <;> simp [State.heatOutcome, State.takes, takes, State.idleOutcome]

/-! ## All channels -/

theorem flatMap_ite_nil {α β : Type} (l : List α) (p : α → Bool) (f : α → List β) :
    (l.flatMap fun a => if p a = true then f a else []) = (l.filter p).flatMap f := by
  induction l with
  | nil => rfl
  | cons a rest ih => cases h : p a <;> simp [h, ih]

theorem flatMap_ite_singleton {α β : Type} (l : List α) (p : α → Bool) (f : α → β) :
    (l.flatMap fun a => if p a = true then [f a] else []) = (l.filter p).map f := by
  rw [flatMap_ite_nil, List.map_eq_flatMap]

/-- R8: a channel tells of its evaluation only from QUALIFYING. -/
theorem State.noticesOf_readyPath (s : State) (n : Chan) (cause : Cause) :
    s.noticesOf n (s.readyPath n (s.channels.get n).state cause)
      = pathNotices n (s.waitReasons n) .qualifying (s.readyPath n (s.channels.get n).state cause) := by
  unfold State.noticesOf State.readyPath
  split_ifs with evaluates
  · rw [evaluates.1]
  · rfl

/-- R8: every channel evaluates its wait reasons. -/
theorem forEachChan_reevaluate (s : State) (cause : Cause) :
    let t := forEachChan (fun s n => s.reevaluate n cause) s
    (∀ n, t.view n = s.evaluated n (s.view n) cause)
    ∧ t.notices = s.notices.postAll
      (allChans.flatMap fun n => pathNotices n (s.waitReasons n) .qualifying (s.readyPath n (s.channels.get n).state cause))
    ∧ s.SameElsewhere t ∧ s.SameLog t := by
  obtain ⟨views, notices, elsewhere, log⟩ := (reevaluate_hasOutcome cause).forEachChan s
  refine ⟨views, ?_, elsewhere, log⟩
  rw [notices]
  exact congrArg _ (List.flatMap_congr fun n _ => s.noticesOf_readyPath n cause)

/-- R28: every channel that takes trips trips on over-temperature once, ascending. -/
theorem State.confirmOverTemp_does (s : State) :
    let number := numberAmong s.log.next s.takes
    (∀ n, s.confirmOverTemp.view n = if s.takes n then s.heated n (s.view n) (number n) else s.view n)
    ∧ s.confirmOverTemp.notices
      = s.notices.postAll ((allChans.filter s.takes).flatMap fun n => s.heatNotices n (s.view n) (number n))
    ∧ s.SameElsewhere s.confirmOverTemp
    ∧ (s.log.appendAll ((allChans.filter s.takes).map fun n => s.heatRecord n (s.view n) (number n))).Same s.confirmOverTemp.log := by
  obtain ⟨views, notices, elsewhere, log⟩ := takeHeat_hasOutcome.forEachChan s
  have own : ∀ n k, s.heatOutcome n k = if s.takes n then
      ⟨s.heated n (s.view n) k, s.heatNotices n (s.view n) k, [s.heatRecord n (s.view n) k]⟩ else s.idleOutcome n :=
    fun _ _ => rfl
  have told : ∀ n k, (s.heatOutcome n k).told = if s.takes n then s.heatNotices n (s.view n) k else [] := fun n k => by
    rw [own]
    split_ifs <;> rfl
  have records : ∀ n k, (s.heatOutcome n k).records = if s.takes n then [s.heatRecord n (s.view n) k] else [] := fun n k => by
    rw [own]
    split_ifs <;> rfl
  simp only [told, records, flatMap_ite_nil, ← List.map_eq_flatMap] at notices log
  refine ⟨fun n => ?_, notices, elsewhere, log⟩
  refine (views n).trans ?_
  dsimp only
  rw [own]
  split_ifs <;> rfl

/-- R27: with the supply status NOT_OK no wait-reason set is empty. -/
theorem State.not_ready_of_supply {s : State} (lost : s.seq.supplyOk = false) (n : Chan) : (s.waitReasons n).isEmpty = false := by
  simp [State.waitReasons, WaitSet.isEmpty, lost]

theorem State.supplyLostPath_eq {s : State} (lost : s.seq.supplyOk = false) (n : Chan) :
    s.supplyLostPath n = (s.channels.get n).state.lostPath := by
  unfold State.supplyLostPath State.qualifyPath
  rw [s.not_ready_of_supply lost n]
  cases (s.channels.get n).state <;> rfl

/-- R27: every channel is told that the supply is lost. -/
theorem forEachChan_supplyLost {s : State} (lost : s.seq.supplyOk = false) :
    let t := forEachChan State.supplyLost s
    (∀ n, t.view n = s.follow n (s.view n) (s.channels.get n).state.lostPath)
    ∧ t.notices = s.notices.postAll
      (allChans.flatMap fun n => pathNotices n (s.waitReasons n) (s.channels.get n).state (s.channels.get n).state.lostPath)
    ∧ s.SameElsewhere t ∧ s.SameLog t := by
  obtain ⟨views, notices, elsewhere, log⟩ := supplyLost_hasOutcome.forEachChan s
  simp only [State.supplyLostPath_eq lost] at views notices
  exact ⟨views, notices, elsewhere, log⟩

/-- R8: outside QUALIFYING there is nothing to evaluate. -/
theorem State.readyPath_elsewhere (s : State) (n : Chan) {st : ChState} (other : st ≠ .qualifying) (cause : Cause) :
    s.readyPath n st cause = [] := if_neg fun evaluates => other evaluates.1

/-- R27: how channel `n` is seen after a change of the supply status. -/
theorem State.supplyOutcome_seen (s : State) (n : Chan) : (s.supplyOutcome n).seen =
    if s.seq.supplyOk = false ∧ (s.channels.get n).state ≠ .qualifying then s.follow n (s.view n) (s.channels.get n).state.lostPath
    else s.evaluated n (s.view n) .ready := by
  unfold State.supplyOutcome
  by_cases qualifying : (s.channels.get n).state = .qualifying
  · simp [qualifying, State.readyOutcome]
  · cases supply : s.seq.supplyOk with
    | true => simp [qualifying, State.idleOutcome, s.evaluated_elsewhere n (v := s.view n) qualifying]
    | false => simp [qualifying, State.pathOutcome, State.supplyLostPath_eq supply]

theorem State.supplyOutcome_told (s : State) (n : Chan) : (s.supplyOutcome n).told =
    pathNotices n (s.waitReasons n) (s.channels.get n).state (if s.seq.supplyOk then [] else (s.channels.get n).state.lostPath)
      ++ pathNotices n (s.waitReasons n) .qualifying (s.readyPath n (s.channels.get n).state .ready) := by
  unfold State.supplyOutcome
  by_cases qualifying : (s.channels.get n).state = .qualifying
  · have told := s.noticesOf_readyPath n .ready
    simp only [qualifying, if_true, State.readyOutcome] at told ⊢
    simp [told, ChState.lostPath, pathNotices]
  · cases supply : s.seq.supplyOk with
    | true => simp [qualifying, State.idleOutcome, s.readyPath_elsewhere n qualifying, pathNotices]
    | false =>
      simp [qualifying, State.pathOutcome, State.supplyLostPath_eq supply, s.readyPath_elsewhere n qualifying, pathNotices,
        State.noticesOf]

/-- R27: every channel is told of a change of the supply status. -/
theorem forEachChan_supplyChanged (s : State) :
    let t := forEachChan State.supplyChanged s
    (∀ n, t.view n = if s.seq.supplyOk = false ∧ (s.channels.get n).state ≠ .qualifying then
        s.follow n (s.view n) (s.channels.get n).state.lostPath
      else s.evaluated n (s.view n) .ready)
    ∧ t.notices = s.notices.postAll (allChans.flatMap fun n =>
      pathNotices n (s.waitReasons n) (s.channels.get n).state (if s.seq.supplyOk then [] else (s.channels.get n).state.lostPath)
        ++ pathNotices n (s.waitReasons n) .qualifying (s.readyPath n (s.channels.get n).state .ready))
    ∧ s.SameElsewhere t ∧ s.SameLog t := by
  obtain ⟨views, notices, elsewhere, log⟩ := supplyChanged_hasOutcome.forEachChan s
  have none : ∀ n, (s.supplyOutcome n).records = [] := fun n => by
    have counts := supplyChanged_hasOutcome.counts s n 0
    exact List.eq_nil_of_length_eq_zero (by simpa using counts)
  simp only [none, State.supplyOutcome_told] at log notices
  exact ⟨fun n => (views n).trans (s.supplyOutcome_seen n), notices, elsewhere, log⟩

end Sys2Proof.Machine

/-! What every step keeps: channels are driven only in safe conditions and run only if usable and covered (R27 to R29). -/

namespace Sys2Proof.Machine

/-! ## One channel -/

/-- The conditions in which a channel may be driven. -/
def State.Safe (s : State) : Prop := s.seq.supplyOk = true ∧ s.tempValid = true ∧ s.seq.overTemp = false

/-- R120: a channel is usable and covered under the active profile. -/
def State.Serviceable (s : State) (n : Chan) : Prop := (s.prof n).usable = true ∧ covered s.store.active.scanList n = true

/-- R27, R28 of a channel seen as `v`. -/
def DrivenSafely (s : State) (_ : Chan) (v : ChanView) : Prop := v.chan.state.takesTrips = true → s.Safe

/-- R29 of channel `n`, seen as `v`. -/
def RunsServiceable (s : State) (n : Chan) (v : ChanView) : Prop := v.chan.state.isRunning = true → s.Serviceable n

theorem ChState.isRunning_of_takesTrips {st : ChState} (h : st.takesTrips = true) : st.isRunning = true := by
  cases st <;> first | rfl | cases h

/-- R6: with no wait reason the conditions are safe and the channel is serviceable. -/
theorem State.ready_iff (s : State) (n : Chan) : s.ready n = true ↔ s.Safe ∧ s.Serviceable n := by
  simp only [State.ready, State.waitReasons, WaitSet.isEmpty, State.Safe, State.Serviceable, Bool.not_eq_true',
    Bool.or_eq_false_iff, Bool.not_eq_false', and_assoc]

theorem State.SameElsewhere.safe {s t : State} (h : s.SameElsewhere t) : t.Safe ↔ s.Safe := by
  simp only [State.Safe, State.tempValid, h.conditions, h.records]

theorem State.SameElsewhere.serviceable {s t : State} (h : s.SameElsewhere t) (n : Chan) : t.Serviceable n ↔ s.Serviceable n := by
  simp only [State.Serviceable, h.prof n, h.store]

/-- R7 to R24: an entry into a driven state is made from a driven one or without a wait reason. -/
theorem ChState.MayEnter.driven {ready : Bool} {before st : ChState} (may : before.MayEnter ready st)
    (takes : st.takesTrips = true) : ready = true ∨ before.takesTrips = true := by
  cases st
  case ramping => exact may.imp_right fun winding => by rw [winding]; rfl
  case active => exact .inr (by rw [show before = .ramping from may]; rfl)
  case windingDown =>
    refine .inr ?_
    rcases may with ramps | active
    · rw [ramps]; rfl
    · rw [active]; rfl
  all_goals cases takes

theorem ChState.MayEnter.running {ready : Bool} {before st : ChState} (may : before.MayEnter ready st)
    (runs : st.isRunning = true) : ready = true ∨ before.isRunning = true := by
  cases st
  case tripped => exact .inr (ChState.isRunning_of_takesTrips may)
  case ramping | active | windingDown => exact (may.driven rfl).imp_right ChState.isRunning_of_takesTrips
  all_goals cases runs

theorem drivenSafely_invariant {G : Profile → Prop} : ChanInvariant G DrivenSafely where
  depends := fun elsewhere h takes => elsewhere.safe.mpr (h takes)
  enters := fun _ may h takes => (may.driven takes).elim (fun ready => ((State.ready_iff _ _).mp ready).1) h
  prepares := fun _ prepared h takes => h (prepared.state ▸ takes)

theorem runsServiceable_invariant {G : Profile → Prop} : ChanInvariant G RunsServiceable where
  depends := fun elsewhere h runs => (elsewhere.serviceable _).mpr (h runs)
  enters := fun _ may h runs => (may.running runs).elim (fun ready => ((State.ready_iff _ _).mp ready).2) h
  prepares := fun _ prepared h runs => h (prepared.state ▸ runs)

theorem State.tickPath_allowed (s : State) (n : Chan) (ready : Bool) : PathAllowed ready (s.channels.get n).state (s.tickPath n) := by
  unfold State.tickPath
  dsimp only
  split
  · split_ifs with settles
    · exact ⟨settles.2.1, trivial⟩
    · exact trivial
  · split_ifs
    · exact ⟨trivial, trivial⟩
    · exact trivial
  · exact trivial
  · exact trivial

theorem ChState.lostPath_allowed (st : ChState) (ready : Bool) : PathAllowed ready st st.lostPath := by
  cases st <;> first | exact trivial | exact ⟨trivial, trivial⟩

/-- R27: no channel is driven once the supply is lost. -/
theorem follow_lostPath_undriven (s : State) (n : Chan) (v : ChanView) :
    (s.follow n v v.chan.state.lostPath).chan.state.takesTrips = false := by
  cases state : v.chan.state <;> simp [ChState.lostPath, State.follow, ChanView.enters, Channel.enter, state, ChState.takesTrips]

theorem Action.heatPath_allowed {st : ChState} (takes : st.takesTrips = true) (ready : Bool) (a : Action) :
    PathAllowed ready st a.heatPath := tripPath_ot a ▸ tripPath_allowed takes ready .ot a

theorem Profile.Good.otPolicy {p : Profile} (h : p.Good) (n : Chan) : (p.channels.get n).otPolicy ≠ .report := by
  obtain ⟨_, ⟨_, _, _, _, _, _, _, _, _, _, _, _, _, heat⟩, _⟩ :=
    (ChannelProfile.inRange_iff _).mp (((Profile.inRange_iff p).mp h.ranges).1 n)
  exact heat

/-- R28: no channel is driven after its trip on over-temperature. -/
theorem State.heated_undriven {s : State} (good : s.store.active.Good) (n : Chan) (v : ChanView) (number : BitVec 16) :
    (s.heated n v number).chan.state.takesTrips = false := by
  have acts : v.heatAction (s.prof n) ≠ .report := by
    have heat : (s.prof n).otPolicy ≠ .report := good.otPolicy n
    unfold ChanView.heatAction
    cases policy : (s.prof n).otPolicy with
    | report => exact absurd policy heat
    | retry | latch => split_ifs <;> nofun
  unfold State.heated
  cases action : v.heatAction (s.prof n) with
  | report => exact absurd action acts
  | retry | lock | stop => rfl

/-! ## A state in which channels run safely -/

section

variable {s t : State}

theorem State.runsSafely_iff (s : State) :
    s.RunsSafely ↔ (∀ n, DrivenSafely s n (s.view n)) ∧ ∀ n, RunsServiceable s n (s.view n) :=
  ⟨fun h => ⟨h.conditions, h.profile⟩, fun h => ⟨h.1, h.2⟩⟩

/-- The channels stand in the states in which they stood and obey the profile they obeyed; the conditions are no worse. -/
theorem State.RunsSafely.mono (h : s.RunsSafely) (states : ∀ n, (t.channels.get n).state = (s.channels.get n).state)
    (active : t.store.active = s.store.active) (safe : s.Safe → t.Safe) : t.RunsSafely where
  conditions := fun n takes => safe (h.conditions n (states n ▸ takes))
  profile := fun n runs => by
    rw [State.prof, active]
    exact h.profile n (states n ▸ runs)

theorem State.RunsSafely.acts (h : s.RunsSafely) {n : Chan} {o : ChanOutcome} (acts : s.Acts t n o)
    (driven : DrivenSafely s n o.seen) (runs : RunsServiceable s n o.seen) : t.RunsSafely :=
  t.runsSafely_iff.mpr ⟨drivenSafely_invariant.acts (G := fun _ => True) acts driven h.conditions,
    runsServiceable_invariant.acts (G := fun _ => True) acts runs h.profile⟩

theorem State.RunsSafely.moves (h : s.RunsSafely) {n : Chan} {v : ChanView} {path : Path} (moved : s.MovesOnly t n v path)
    (prepared : (s.view n).Prepares v) (allowed : PathAllowed (s.ready n) (s.channels.get n).state path) : t.RunsSafely :=
  t.runsSafely_iff.mpr ⟨drivenSafely_invariant.moves (G := fun _ => True) trivial moved prepared allowed h.conditions,
    runsServiceable_invariant.moves (G := fun _ => True) trivial moved prepared allowed h.profile⟩

/-- A channel that takes an allowed path from where it stands, its other values whatever they be. -/
theorem State.RunsSafely.follows (h : s.RunsSafely) {n : Chan} {o : ChanOutcome} {v : ChanView} {path : Path} (acts : s.Acts t n o)
    (seen : o.seen = s.follow n v path) (state : v.chan.state = (s.channels.get n).state)
    (allowed : PathAllowed (s.ready n) v.chan.state path) : t.RunsSafely := by
  refine h.acts acts ?_ ?_
  · exact seen ▸ drivenSafely_invariant.follow (G := fun _ => True) trivial allowed fun takes => h.conditions n (state ▸ takes)
  · exact seen ▸ runsServiceable_invariant.follow (G := fun _ => True) trivial allowed fun runs => h.profile n (state ▸ runs)

theorem State.RunsSafely.tick (h : s.RunsSafely) (n : Chan) : (s.rampTick n).RunsSafely :=
  h.follows (s.rampTick_movesOnly n).acts rfl rfl (s.tickPath_allowed n _)

theorem State.RunsSafely.trip (h : s.RunsSafely) (n : Chan) (kind : TripKind) : (s.takeTrip n kind).RunsSafely := by
  have acts := s.takeTrip_acts n kind
  unfold State.tripOutcome at acts
  split_ifs at acts with takes
  · exact h.follows acts rfl rfl (tripPath_allowed takes _ _ _)
  · exact h.follows (path := []) acts rfl rfl trivial

theorem State.RunsSafely.scan (h : s.RunsSafely) (sense : BitVec 10) : (s.scanStep sense).RunsSafely := by
  refine h.mono (fun n => ?_) (s.scanStep_active sense) fun safe => ?_
  · obtain ⟨pending, channel⟩ := s.scanStep_channel sense n
    rw [channel]
  · have seq : (s.scanStep sense).seq = s.seq := by
      unfold State.scanStep State.sample
      dsimp only
      split
      · rfl
      · split_ifs <;> rfl
    simpa only [State.Safe, State.tempValid, seq] using safe

/-- R8: a channel evaluates its wait reasons. -/
theorem State.RunsSafely.reevaluate (h : s.RunsSafely) (n : Chan) (cause : Cause) : (s.reevaluate n cause).RunsSafely := by
  unfold State.reevaluate
  split_ifs with qualifying ready
  · exact h.moves (s.transition_movesOnly n .ramping cause (by decide)) (.refl _) ⟨.inl ready, trivial⟩
  · exact h.moves (s.setChan_movesOnly n rfl) ⟨rfl, .inr qualifying, le_rfl, .inl rfl, rfl, .inl rfl, rfl, rfl⟩ trivial
  · exact h

theorem State.RunsSafely.reevaluateAll (h : s.RunsSafely) (cause : Cause) :
    (forEachChan (fun s n => s.reevaluate n cause) s).RunsSafely :=
  forEachChan_keeps (P := State.RunsSafely) (fun _ n h => h.reevaluate n cause) h

/-- R97: the over-temperature condition that becomes set trips the driven channels; it is known that channels are driven only
where it was clear. -/
theorem State.runsSafely_overTemp (was : Bool) (good : s.store.active.Good)
    (driven : ∀ n, (s.channels.get n).state.takesTrips = true → s.seq.supplyOk = true ∧ s.tempValid = true ∧ was = false)
    (runs : ∀ n, RunsServiceable s n (s.view n)) : (s.overTempReplaced was).RunsSafely := by
  unfold State.overTempReplaced
  split_ifs with set
  · obtain ⟨views, _, elsewhere, _⟩ := s.confirmOverTemp_does
    have own : ∀ n, RunsServiceable s n (s.confirmOverTemp.view n) ∧ (s.confirmOverTemp.channels.get n).state.takesTrips = false := by
      intro n
      have state : (s.confirmOverTemp.channels.get n).state = (s.confirmOverTemp.view n).chan.state := rfl
      rw [state, views n]
      split_ifs with takes
      · exact ⟨runsServiceable_invariant.follow (G := fun _ => True) trivial (Action.heatPath_allowed takes _ _) (runs n),
          s.heated_undriven good n _ _⟩
      · exact ⟨runs n, Bool.eq_false_of_not_eq_true takes⟩
    exact (State.runsSafely_iff _).mpr ⟨fun n takes => Bool.noConfusion (takes.symm.trans (own n).2),
      fun n => runsServiceable_invariant.depends (G := fun _ => True) elsewhere (own n).1⟩
  · refine (State.runsSafely_iff _).mpr ⟨fun n takes => ?_, runs⟩
    obtain ⟨supply, valid, clear⟩ := driven n takes
    refine ⟨supply, valid, ?_⟩
    simpa [clear] using set

/-- R27: the supply is lost: no channel is driven any more. -/
theorem forEachChan_supplyLost_runs (lost : s.seq.supplyOk = false) (runs : ∀ n, RunsServiceable s n (s.view n)) :
    (∀ n, ((forEachChan State.supplyLost s).channels.get n).state.takesTrips = false)
      ∧ ∀ n, RunsServiceable (forEachChan State.supplyLost s) n ((forEachChan State.supplyLost s).view n) := by
  obtain ⟨views, _, elsewhere, _⟩ := forEachChan_supplyLost lost
  refine ⟨fun n => ?_, fun n => runsServiceable_invariant.depends (G := fun _ => True) elsewhere ?_⟩
  · have state : ((forEachChan State.supplyLost s).channels.get n).state = ((forEachChan State.supplyLost s).view n).chan.state := rfl
    rw [state, views n]
    exact follow_lostPath_undriven s n (s.view n)
  · rw [views n]
    exact runsServiceable_invariant.follow (G := fun _ => True) trivial (ChState.lostPath_allowed _ _) (runs n)

/-- R27: the supply status has become NOT_OK: no channel is driven any more, and none starts. -/
theorem State.supplyChanged_runs (lost : s.seq.supplyOk = false) (runs : ∀ n, RunsServiceable s n (s.view n)) :
    (forEachChan State.supplyChanged s).RunsSafely := by
  obtain ⟨views, _, elsewhere, _⟩ := forEachChan_supplyChanged s
  have own : ∀ n, RunsServiceable s n ((forEachChan State.supplyChanged s).view n)
      ∧ ((forEachChan State.supplyChanged s).channels.get n).state.takesTrips = false := by
    intro n
    have state : ((forEachChan State.supplyChanged s).channels.get n).state = ((forEachChan State.supplyChanged s).view n).chan.state := rfl
    rw [state, views n]
    split_ifs with other
    · exact ⟨runsServiceable_invariant.follow (G := fun _ => True) trivial (ChState.lostPath_allowed _ _) (runs n),
        follow_lostPath_undriven s n (s.view n)⟩
    · have qualifying : (s.channels.get n).state = .qualifying := by simpa [lost] using other
      rw [s.evaluated_of_waiting n (v := s.view n) qualifying (s.not_ready_of_supply lost n)]
      exact ⟨runs n, by simp [State.view, qualifying, ChState.takesTrips]⟩
  exact (State.runsSafely_iff _).mpr ⟨fun n takes => Bool.noConfusion (takes.symm.trans (own n).2),
    fun n => runsServiceable_invariant.depends (G := fun _ => True) elsewhere (own n).1⟩

end

/-! ## Completions -/

section

variable {s : State}

theorem State.evaluateWarning_conditions (s : State) (p : Point) : (s.evaluateWarning p).seq.supplyOk = s.seq.supplyOk
    ∧ (s.evaluateWarning p).tempValid = s.tempValid ∧ (s.evaluateWarning p).seq.overTemp = s.seq.overTemp := by
  unfold State.evaluateWarning
  dsimp only
  split_ifs
  · exact ⟨rfl, rfl, rfl⟩
  · refine ⟨rfl, ?_, rfl⟩
    cases p <;> rfl

theorem State.RunsSafely.evaluateWarning (h : s.RunsSafely) (p : Point) : (s.evaluateWarning p).RunsSafely := by
  obtain ⟨supply, valid, heat⟩ := s.evaluateWarning_conditions p
  have same := s.evaluateWarning_sameStages p
  exact h.mono (fun n => by rw [same.channels]) same.active (by simp only [State.Safe, supply, valid, heat, imp_self])

theorem State.takeResult_safe (s : State) (p : Point) (v : Int) (safe : s.Safe) : (s.takeResult p v).Safe := by
  obtain ⟨supply, valid, clear⟩ := safe
  refine ⟨supply, ?_, clear⟩
  cases p with
  | temp => rfl
  | supply | chan => exact valid

theorem State.RunsSafely.takeResult (h : s.RunsSafely) (p : Point) (v : Int) : (s.takeResult p v).RunsSafely :=
  h.mono (fun _ => rfl) rfl (s.takeResult_safe p v)

/-- R88, TEMP: beyond the condition the steps are a replaced condition's trips, and what waits evaluates. -/
theorem State.tempSteps_eq (s : State) (wasValid : Bool) : s.tempSteps wasValid =
    let judged := ((s.evaluateWarning .temp).recomputeTargets).evaluateOverTemp
    let tripped := judged.overTempReplaced s.seq.overTemp
    if (!wasValid || judged.seq.overTemp != s.seq.overTemp) = true then forEachChan (fun s n => s.reevaluate n .ready) tripped
    else tripped := rfl

/-- R88, TEMP: the completion has made the temperature valid. -/
theorem State.RunsSafely.tempSteps (h : s.RunsSafely) (good : s.store.active.Good) (wasValid : Bool) :
    (s.tempSteps wasValid).RunsSafely := by
  have warned := h.evaluateWarning .temp
  obtain ⟨_, _, heat⟩ := s.evaluateWarning_conditions .temp
  have judged : (((s.evaluateWarning .temp).recomputeTargets.evaluateOverTemp).overTempReplaced s.seq.overTemp).RunsSafely := by
    have active : (s.evaluateWarning .temp).store.active.Good := by rwa [(s.evaluateWarning_reports .temp).store]
    refine State.runsSafely_overTemp _ active (fun n takes => ?_) warned.profile
    obtain ⟨supply, valid, clear⟩ := warned.conditions n takes
    exact ⟨supply, valid, heat ▸ clear⟩
  rw [State.tempSteps_eq]
  dsimp only
  split_ifs
  · exact judged.reevaluateAll .ready
  · exact judged

theorem State.RunsSafely.evaluateBand (h : s.RunsSafely) : s.evaluateBand.RunsSafely := by
  unfold State.evaluateBand
  dsimp only
  split_ifs
  · exact h
  · exact h.mono (fun _ => rfl) rfl fun safe => safe

/-- R92, R27: a supply status that becomes NOT_OK parks the driven channels; one that becomes OK finds none driven. -/
theorem State.RunsSafely.evaluateSupply (h : s.RunsSafely) : s.evaluateSupply.RunsSafely := by
  unfold State.evaluateSupply
  dsimp only
  generalize nextSupplyOk s.seq.supplyOk s.store.active.supply s.seq.records.supply.smoothed = ok
  split_ifs with same
  · exact h
  · cases ok with
    | true =>
      have was : s.seq.supplyOk = false := by simpa using Ne.symm same
      have undriven : ∀ n, (s.channels.get n).state.takesTrips ≠ true := fun n takes =>
        Bool.noConfusion (was.symm.trans (h.conditions n takes).1)
      have told : (s.withSeq { s.seq with supplyOk := true }).postSupply.RunsSafely :=
        ⟨fun n takes => absurd takes (undriven n), h.profile⟩
      refine (forEachChan_keeps (P := fun s => s.seq.supplyOk = true ∧ s.RunsSafely) (fun s n h => ?_) ⟨rfl, told⟩).2
      unfold State.supplyChanged
      have stays := (s.reevaluate_acts n .ready).elsewhere.conditions.1
      split_ifs with qualifying good
      · exact ⟨stays.trans h.1, h.2.reevaluate n .ready⟩
      · exact h
      · exact absurd h.1 good
    | false => exact State.supplyChanged_runs rfl h.profile

/-- R88: a completion, whatever it is of. -/
theorem State.RunsSafely.converts (h : s.RunsSafely) (good : s.store.active.Good) (value : Int) :
    (s.conversionCompletes value).RunsSafely := by
  have taken : ∀ p v, (s.takeResult p v).RunsSafely := fun p v => h.takeResult p v
  have begun : ∀ (u : State) (p : Point), u.RunsSafely → (u.beginNext p).RunsSafely := fun u p h =>
    h.mono (fun _ => rfl) rfl id
  unfold State.conversionCompletes State.completionSteps
  refine begun _ _ ?_
  split
  · exact (taken _ _).tempSteps good _
  · exact ((taken _ _).evaluateWarning .supply).evaluateBand.evaluateSupply
  · unfold State.chanPointSteps
    split_ifs
    · exact (taken _ _).evaluateWarning _
    · exact taken _ _

/-! ## Profile replacement -/

/-- R121, R125: a profile that serves the running channels is installed. -/
theorem State.RunsSafely.install (h : s.RunsSafely) {p : Profile} (good : p.Good) (under : s.RunsUnder p) :
    (s.install p).RunsSafely := by
  refine State.RunsSafely.reevaluateAll ?_ .commit
  have supplied : ∀ u : State, u.store.active = p → (∀ n, (u.channels.get n).state = (s.channels.get n).state) →
      u.tempValid = s.tempValid →
      ((u.supplyReplaced s.seq.supplyOk).overTempReplaced s.seq.overTemp).RunsSafely := by
    intro u active states valid
    have runs : ∀ n, RunsServiceable u n (u.view n) := fun n runs => by
      have running : s.isRunning n = true := by rw [State.isRunning, ← states n]; exact runs
      simpa only [State.Serviceable, State.prof, active] using under n running
    have tempered : ∀ n, (u.channels.get n).state.takesTrips = true → u.tempValid = true ∧ s.seq.overTemp = false := fun n takes => by
      obtain ⟨_, was, clear⟩ := h.conditions n (states n ▸ takes)
      exact ⟨valid.trans was, clear⟩
    refine State.runsSafely_overTemp _ ?_ ?_ ?_
    · rw [(u.supplyReplaced_reports _).store, active]
      exact good
    all_goals unfold State.supplyReplaced
    · split_ifs with same gained
      · exact fun n takes => ⟨same.trans (h.conditions n (states n ▸ takes)).1, tempered n takes⟩
      · exact fun n takes => ⟨gained, tempered n takes⟩
      · have lost := forEachChan_supplyLost_runs (s := u.postSupply) (Bool.eq_false_of_not_eq_true gained) runs
        exact fun n takes => Bool.noConfusion (takes.symm.trans (lost.1 n))
    · split_ifs with same gained
      · exact runs
      · exact runs
      · exact (forEachChan_supplyLost_runs (s := u.postSupply) (Bool.eq_false_of_not_eq_true gained) runs).2
  exact supplied _ rfl (fun n => by simp [State.takeProfile, State.lowerRetryCounts, State.newParks, State.scannerReplaced,
    State.seqReplaced, State.recomputeTargets]) rfl

end

/-! ## Every step -/

theorem runsSafely_law : ChannelLaw Profile.Good State.RunsSafely where
  same := fun h same => h.mono (fun n => by rw [same.channels]) same.active (by simp only [State.Safe, State.tempValid, same.seq, imp_self])
  elapse := fun d h => h.mono (fun n => by simp [Channel.elapse]) rfl id
  moves := fun h _ moved prepared allowed => h.moves moved prepared allowed
  tick := fun n _ h => h.tick n
  trip := fun n kind _ h => h.trip n kind
  scan := fun sense _ h => h.scan sense
  converts := fun value good h => h.converts good value
  install := fun _ installed under h => h.install installed under
  bringUp := fun {s} held recalling _ => by
    have channels : s.channels = Quad.const channelAtReset := held.channels (by simp [recalling])
    have disabled : ∀ n, (s.bringUp.channels.get n).state = .disabled := fun n => by
      change (s.channels.get n).state = _
      rw [channels, Quad.get_const]
      rfl
    exact ⟨fun n takes => by simp [disabled n, ChState.takesTrips] at takes,
      fun n runs => by simp [disabled n, ChState.isRunning] at runs⟩

theorem State.runsSafely_of_held {s : State} (held : s.HeldUntilRecall) (notRunning : s.startup.phase ≠ .running) : s.RunsSafely := by
  have disabled : ∀ n, (s.channels.get n).state = .disabled := fun n => by
    rw [held.channels notRunning, Quad.get_const]
    rfl
  exact ⟨fun n takes => by simp [disabled n, ChState.takesTrips] at takes,
    fun n runs => by simp [disabled n, ChState.isRunning] at runs⟩

/-- Settles O59: entries into driven states are made from driven ones or with no wait reason, and a condition no longer met
takes every driven channel out of those states. -/
theorem channelsRunOnlyInSafeConditions : Obligations.ChannelsRunOnlyInSafeConditions := by
  intro s t held profiles safe stepped
  have kept := runsSafely_law.kept profilesOk_kept fun _ => State.ProfilesOk.active
  obtain ⟨after, _, runs⟩ := kept.step held ⟨profiles, fun _ => safe⟩ stepped
  by_cases running : t.startup.phase = .running
  · exact runs running
  · exact State.runsSafely_of_held after running

end Sys2Proof.Machine

/-! What every step keeps: retry counts, targets and tallies within their bounds (R26, R39, R67, R70 to R78). -/

namespace Sys2Proof.Machine

/-! ## Good profiles -/

section

variable {p : Profile}

theorem Profile.Good.floor_le_ceiling (h : p.Good) (n : Chan) : (p.channels.get n).floor ≤ (p.channels.get n).ceiling := by
  have passes := List.find?_eq_none.mp (Option.map_eq_none_iff.mp h.floorCeiling) n (mem_allChans n)
  simpa using passes

theorem Profile.Good.confirm_pos (h : p.Good) (n : Chan) (k : FastKind) : 0 < ((p.channels.get n).setting k).confirm := by
  have setting := ((ChannelProfile.inRange_iff _).mp (((Profile.inRange_iff p).mp h.ranges).1 n)).2.2 k
  simp only [TripSetting.inRange, decide_eq_true_eq] at setting
  exact setting.2.1

theorem Profile.Good.slots (h : p.Good) : 0 < p.scanList.length := ((Profile.inRange_iff p).mp h.ranges).2.1.1

end

/-! ## One channel -/

/-- Whether point `k` of channel `n` is in the scan list. -/
def State.lists (s : State) (n : Chan) (k : FastKind) : Bool := s.store.active.scanList.contains (pointNumber n k)

/-- R26, R67, R70 to R76 of channel `n`, seen as `v`. -/
structure InBounds (s : State) (n : Chan) (v : ChanView) : Prop where
  count : v.chan.retryCount ≤ (s.prof n).retryBudget
  below : ∀ k, v.tallies.get k < ((s.prof n).setting k).confirm
  absent : ∀ k, s.lists n k = false → v.tallies.get k = 0
  discarded : ∀ k, sampleCounts v.chan.state v.chan.blanking k = false → v.tallies.get k = 0
  flag : v.tallies.armed = false → (s.prof n).lf.policy = .report ∧ s.lists n .lf = true
    ∧ sampleCounts v.chan.state v.chan.blanking .lf = true

section

variable {s : State} {n : Chan} {v w : ChanView}

/-- R9, R69: blanking that expires discards no samples. -/
theorem sampleCounts_expired {st : ChState} {b : BlankTimer} {k : FastKind} (counts : sampleCounts st b k = true) :
    sampleCounts st .expired k = true := by
  cases st <;> cases k <;> first | rfl | exact counts

/-- Time that passes discards no samples and lets none count: the expiry is an event of its own. -/
theorem sampleCounts_elapse (st : ChState) (b : BlankTimer) (d : Nat) (k : FastKind) :
    sampleCounts st (b.elapse d) k = sampleCounts st b k := by
  cases b <;> simp [BlankTimer.elapse, sampleCounts_eq]

theorem ChanView.Prepares.counts (prepared : v.Prepares w) {k : FastKind}
    (counts : sampleCounts v.chan.state v.chan.blanking k = true) : sampleCounts w.chan.state w.chan.blanking k = true := by
  rw [prepared.state]
  rcases prepared.blanking with same | ⟨_, _, expired⟩
  · rwa [same]
  · rw [expired]
    exact sampleCounts_expired counts

theorem InBounds.prepares (h : InBounds s n v) (prepared : v.Prepares w) : InBounds s n w where
  count := prepared.count.trans h.count
  below := prepared.tallies ▸ h.below
  absent := prepared.tallies ▸ h.absent
  discarded := fun k out => by
    rw [prepared.tallies]
    refine h.discarded k ?_
    by_contra counts
    rw [prepared.counts (Bool.eq_true_of_not_eq_false counts)] at out
    cases out
  flag := fun clear => by
    obtain ⟨policy, listed, counts⟩ := h.flag (prepared.tallies ▸ clear)
    exact ⟨policy, listed, prepared.counts counts⟩

/-- R74: the entry into a state clears the tallies of kinds it no longer counts, and arms LF again. -/
theorem InBounds.enters (h : InBounds s n v) (now : W32) (waits : WaitSet) (st : ChState) :
    InBounds s n (v.enters (s.prof n) now waits st) where
  count := h.count
  below := fun k => by
    have below := h.below k
    simp only [ChanView.enters, Tallies.onChange_get]
    split_ifs
    · omega
    · exact below
  absent := fun k out => by
    simp only [ChanView.enters, Tallies.onChange_get, h.absent k out, ite_self]
  discarded := fun k out => by
    have after : sampleCounts st (blankingFor st (s.prof n)) k = false := out
    simp only [ChanView.enters, Tallies.onChange_get, after, and_true]
    split_ifs with before
    · rfl
    · exact h.discarded k (Bool.eq_false_of_not_eq_true before)
  flag := fun clear => by
    simp only [ChanView.enters, Tallies.onChange_armed] at clear
    split_ifs at clear with leaves
    obtain ⟨policy, listed, counts⟩ := h.flag clear
    refine ⟨policy, listed, ?_⟩
    by_contra out
    exact leaves ⟨counts, Bool.eq_false_of_not_eq_true out⟩

end

theorem InBounds.congr {s t : State} {n : Chan} {v w : ChanView} (h : InBounds s n v) (active : t.store.active = s.store.active)
    (count : w.chan.retryCount = v.chan.retryCount) (state : w.chan.state = v.chan.state)
    (blanking : ∀ k, sampleCounts v.chan.state w.chan.blanking k = sampleCounts v.chan.state v.chan.blanking k)
    (tallies : w.tallies = v.tallies) : InBounds t n w := by
  obtain ⟨hcount, below, absent, discarded, flag⟩ := h
  constructor
  all_goals simp only [State.prof, State.lists, active, count, state, blanking, tallies]
  exacts [hcount, below, absent, discarded, flag]

theorem inBounds_invariant {G : Profile → Prop} : ChanInvariant G InBounds where
  depends := fun elsewhere h => h.congr (by rw [elsewhere.store]) rfl rfl (fun _ => rfl) rfl
  enters := fun _ _ h => h.enters _ _ _
  prepares := fun _ prepared h => h.prepares prepared

/-! ## A state in bounds -/

/-- R26, R39, R67 to R76 in a running part. -/
structure State.InOrder (s : State) : Prop where
  chans : ∀ n, InBounds s n (s.view n)
  position : s.scanner.position < s.store.active.scanList.length
  targets : ∀ n, (s.prof n).floor ≤ s.targets.get n ∧ s.targets.get n ≤ (s.prof n).ceiling

section

variable {s t : State}

theorem State.InOrder.acts (h : s.InOrder) {n : Chan} {o : ChanOutcome} (acts : s.Acts t n o) (own : InBounds s n o.seen) :
    t.InOrder where
  chans := inBounds_invariant.acts (G := fun _ => True) acts own h.chans
  position := by
    rw [acts.elsewhere.scanning.2, acts.elsewhere.store]
    exact h.position
  targets := fun n => by
    rw [acts.elsewhere.prof n, acts.elsewhere.targets]
    exact h.targets n

/-- R20, R22: a RETRY is chosen, and charged, only while the count is below the budget. -/
theorem countAfter_le {st : ChState} {policy : Policy} {count budget : Nat} (within : count ≤ budget) :
    countAfter (chooseAction st policy count budget) count ≤ budget := by
  unfold countAfter
  split_ifs with retry
  · unfold chooseAction at retry
    cases policy with
    | report | latch => split_ifs at retry
    | retry =>
      dsimp only at retry
      split_ifs at retry with _ less
      exact less
  · exact within

theorem State.InOrder.trip (h : s.InOrder) (n : Chan) (kind : TripKind) : (s.takeTrip n kind).InOrder := by
  refine h.acts (s.takeTrip_acts n kind) ?_
  unfold State.tripOutcome
  split_ifs with takes
  · have own := h.chans n
    refine inBounds_invariant.follow (G := fun _ => True) trivial (tripPath_allowed takes _ _ _) ?_
    exact ⟨countAfter_le own.count, own.below, own.absent, own.discarded, own.flag⟩
  · exact h.chans n

theorem State.InOrder.tick (h : s.InOrder) (n : Chan) : (s.rampTick n).InOrder := by
  refine h.acts (s.rampTick_movesOnly n).acts ?_
  have own := h.chans n
  exact inBounds_invariant.follow (G := fun _ => True) trivial (s.tickPath_allowed n _)
    ⟨own.count, own.below, own.absent, own.discarded, own.flag⟩

theorem liveTarget_between (good : s.store.active.Good) (n : Chan) :
    (s.prof n).floor ≤ s.liveTarget n ∧ s.liveTarget n ≤ (s.prof n).ceiling := by
  have order : (s.prof n).floor ≤ (s.prof n).ceiling := good.floor_le_ceiling n
  unfold State.liveTarget evaluateCurve
  split_ifs
  · dsimp only
    have limited := limitTo_target (s.prof n).floor (s.prof n).ceiling
      (curveBase (s.prof n).curve s.seq.records.temp.smoothed + (s.prof n).trim.get s.seq.band)
    omega
  · exact ⟨le_rfl, order⟩

theorem State.InOrder.retargeted (h : s.InOrder) (good : s.store.active.Good) : s.recomputeTargets.InOrder where
  chans := fun n => (h.chans n).congr rfl rfl rfl (fun _ => rfl) rfl
  position := h.position
  targets := fun n => by
    show _ ≤ (Quad.ofFn s.liveTarget).get n ∧ (Quad.ofFn s.liveTarget).get n ≤ _
    rw [Quad.get_ofFn]
    exact liveTarget_between good n

end

/-! ## The scan step -/

section

variable (t : Tallies) (k j : FastKind)

theorem Tallies.discard_get : (t.discard k).get j = if j = k then 0 else t.get j := by
  cases k <;> cases j <;> rfl

theorem Tallies.discard_armed : (t.discard k).armed = if k = .lf then true else t.armed := by
  cases k <;> rfl

theorem Tallies.set_get (v : Nat) : (t.set k v).get j = if j = k then v else t.get j := by
  cases k <;> cases j <;> rfl

theorem Tallies.set_armed (v : Nat) : (t.set k v).armed = t.armed := by cases k <;> rfl

theorem Tallies.confirmed_get (policy : Policy) : (t.confirmed k policy).get j = 0 := by cases j <;> rfl

end

section

variable {s : State} {n : Chan} {k : FastKind}

/-- R70: a sample discarded. -/
theorem InBounds.discards (h : InBounds s n (s.view n)) :
    InBounds s n { s.view n with tallies := (s.scanner.tallies.get n).discard k } where
  count := h.count
  below := fun j => by
    have below : (s.scanner.tallies.get n).get j < ((s.prof n).setting j).confirm := h.below j
    dsimp only
    rw [Tallies.discard_get]
    split_ifs <;> omega
  absent := fun j out => by
    have absent : (s.scanner.tallies.get n).get j = 0 := h.absent j out
    dsimp only
    rw [Tallies.discard_get, absent, ite_self]
  discarded := fun j out => by
    have none : (s.scanner.tallies.get n).get j = 0 := h.discarded j out
    dsimp only
    rw [Tallies.discard_get, none, ite_self]
  flag := fun clear => by
    rw [Tallies.discard_armed] at clear
    split_ifs at clear
    exact h.flag clear

/-- R71: a sample of a listed point counted, short of the confirm count. -/
theorem InBounds.counts (h : InBounds s n (s.view n)) (listed : s.lists n k = true)
    (counted : sampleCounts (s.channels.get n).state (s.channels.get n).blanking k = true) {isBeyond : Bool}
    (short : (s.scanner.tallies.get n).confirms k isBeyond ((s.prof n).setting k).confirm = false) :
    InBounds s n { s.view n with tallies := (s.scanner.tallies.get n).count k isBeyond } := by
  cases isBeyond with
  | false =>
    rw [Tallies.count_not_beyond]
    exact h.discards
  | true =>
    rw [Tallies.count_beyond]
    have unconfirmed := mt (Tallies.confirms_iff (s.scanner.tallies.get n) k true _).mpr (Bool.eq_false_iff.mp short)
    have below : ∀ j, (s.scanner.tallies.get n).get j < ((s.prof n).setting j).confirm := h.below
    constructor
    case count => exact h.count
    case below =>
      intro j
      have own := below j
      split_ifs with stays
      · simp only [Tallies.set_get]
        split_ifs <;> omega
      · simp only [Tallies.set_get]
        split_ifs with same
        · subst same
          have differs : (s.scanner.tallies.get n).get j + 1 ≠ ((s.prof n).setting j).confirm := fun reached =>
            unconfirmed ⟨rfl, stays, reached⟩
          omega
        · exact own
    case absent =>
      intro j out
      have other : j ≠ k := by
        rintro rfl
        exact Bool.noConfusion (listed.symm.trans out)
      have absent : (s.scanner.tallies.get n).get j = 0 := h.absent j out
      split_ifs <;> simp only [Tallies.set_get, other, if_false, absent]
    case discarded =>
      intro j out
      have other : j ≠ k := by
        rintro rfl
        exact Bool.noConfusion (counted.symm.trans out)
      have none : (s.scanner.tallies.get n).get j = 0 := h.discarded j out
      split_ifs <;> simp only [Tallies.set_get, other, if_false, none]
    case flag =>
      intro clear
      have same : (s.scanner.tallies.get n).armed = false := by
        split_ifs at clear <;> simpa only [Tallies.set_armed] using clear
      exact h.flag same

/-- R72: a sample of a listed point confirmed. -/
theorem InBounds.confirms (h : InBounds s n (s.view n)) (listed : s.lists n k = true)
    (counted : sampleCounts (s.channels.get n).state (s.channels.get n).blanking k = true) :
    InBounds s n { s.view n with tallies := (s.scanner.tallies.get n).confirmed k ((s.prof n).setting k).policy } where
  count := h.count
  below := fun j => by
    dsimp only
    rw [Tallies.confirmed_get]
    exact Nat.zero_lt_of_lt (h.below j)
  absent := fun j _ => Tallies.confirmed_get _ _ _ _
  discarded := fun j _ => Tallies.confirmed_get _ _ _ _
  flag := fun clear => by
    simp only [Tallies.confirmed] at clear
    split_ifs at clear with reported
    · obtain ⟨rfl, policy⟩ := reported
      exact ⟨policy, listed, counted⟩
    · exact h.flag clear

end

/-- R68: a point of the list is the point of its kind on its channel. -/
theorem pointNumber_kind (p : PointNumber) : pointNumber (pointChan p) (pointKind p) = p := by
  revert p
  decide

theorem nextSlot_lt {position length : Nat} (h : position < length) : nextSlot position length < length := by
  unfold nextSlot
  split_ifs <;> omega

/-- R69 to R72: the tallies after a sample of point `p`. -/
def State.sampled (s : State) (p : PointNumber) (sense : BitVec 10) : Tallies :=
  let isBeyond := beyond (pointKind p) (s.pointSetting p).threshold sense
  if s.countsAt p then
    if (s.pointTallies p).confirms (pointKind p) isBeyond (s.pointSetting p).confirm then
      (s.pointTallies p).confirmed (pointKind p) (s.pointSetting p).policy
    else (s.pointTallies p).count (pointKind p) isBeyond
  else (s.pointTallies p).discard (pointKind p)

theorem State.scanStep_scanner {s : State} {p : PointNumber} (slot : s.store.active.scanList[s.scanner.position]? = some p)
    (sense : BitVec 10) : (s.scanStep sense).scanner = { s.scanner with
      position := nextSlot s.scanner.position s.store.active.scanList.length
      tallies := s.scanner.tallies.set (pointChan p) (s.sampled p sense) } := by
  unfold State.scanStep State.sample State.sampled
  simp only [slot, State.countsAt, State.pointTallies, State.pointSetting]
  rcases Bool.eq_false_or_eq_true (sampleCounts (s.channels.get (pointChan p)).state (s.channels.get (pointChan p)).blanking
    (pointKind p)) with counted | out
  · rcases Bool.eq_false_or_eq_true ((s.scanner.tallies.get (pointChan p)).confirms (pointKind p)
      (beyond (pointKind p) ((s.prof (pointChan p)).setting (pointKind p)).threshold sense)
      ((s.prof (pointChan p)).setting (pointKind p)).confirm) with reached | short
    · simp only [counted, reached, if_true]
      rfl
    · simp only [counted, short, if_true, Bool.false_eq_true, if_false]
      rfl
  · simp only [out, Bool.false_eq_true, if_false]
    rfl

theorem InBounds.sampled {s : State} {p : PointNumber} (h : InBounds s (pointChan p) (s.view (pointChan p)))
    (listed : p ∈ s.store.active.scanList) (sense : BitVec 10) :
    InBounds s (pointChan p) { s.view (pointChan p) with tallies := s.sampled p sense } := by
  have lists : s.lists (pointChan p) (pointKind p) = true := by
    rw [State.lists, pointNumber_kind]
    exact List.contains_iff_mem.mpr listed
  unfold State.sampled
  dsimp only
  split_ifs with counted confirmed
  · exact h.confirms lists counted
  · exact h.counts lists counted (Bool.eq_false_of_not_eq_true confirmed)
  · exact h.discards

/-- R68: a step touches of the channels the tallies of one, and its pending confirmation. -/
theorem State.InOrder.scan {s : State} (h : s.InOrder) (sense : BitVec 10) : (s.scanStep sense).InOrder := by
  obtain ⟨p, slot⟩ : ∃ p, s.store.active.scanList[s.scanner.position]? = some p := ⟨_, List.getElem?_eq_getElem h.position⟩
  have scanner := s.scanStep_scanner slot sense
  have active := s.scanStep_active sense
  refine ⟨fun n => ?_, ?_, fun n => ?_⟩
  · obtain ⟨pending, channel⟩ := s.scanStep_channel sense n
    have kept : ∀ w : Tallies, (s.scanStep sense).scanner.tallies.get n = w → InBounds s n { s.view n with tallies := w } →
        InBounds (s.scanStep sense) n ((s.scanStep sense).view n) := fun w tallies own =>
      own.congr active (congrArg Channel.retryCount channel :) (congrArg Channel.state channel :)
        (fun k => by rw [show ((s.scanStep sense).view n).chan.blanking = _ from congrArg Channel.blanking channel]; rfl) tallies
    by_cases this : n = pointChan p
    · subst this
      refine kept _ ?_ ((h.chans (pointChan p)).sampled (List.mem_of_getElem? slot) sense)
      rw [scanner, Quad.get_set_self]
    · refine kept _ ?_ (h.chans n)
      rw [scanner, Quad.get_set_of_ne _ _ this]
  · rw [scanner, active]
    exact nextSlot_lt h.position
  · have targets : (s.scanStep sense).targets = s.targets := by
      unfold State.scanStep State.sample
      dsimp only
      split
      · rfl
      · split_ifs <;> rfl
    rw [State.prof, active, targets]
    exact h.targets n

/-! ## Profile replacement (R29, R77, R78) -/

theorem Tallies.replaced_get (t : Tallies) (was now : ChannelProfile) (listed : FastKind → Bool) (k : FastKind) :
    (t.replaced was now listed).get k = if tallyCleared (was.setting k) (now.setting k) (listed k) then 0 else t.get k := by
  cases k <;> rfl

/-- R29, R77, R78: the values of a channel under the profile that replaces the one in force. -/
theorem InBounds.replaced {s : State} {p : Profile} (h : ∀ n, InBounds s n (s.view n)) (good : p.Good) (n : Chan) :
    InBounds ((s.withStore { s.store with active := p }).takeProfile s.store.active) n
      (((s.withStore { s.store with active := p }).takeProfile s.store.active).view n) := by
  have own := h n
  have tallies : (((s.withStore { s.store with active := p }).takeProfile s.store.active).view n).tallies
      = (s.scanner.tallies.get n).replaced (s.prof n) (p.channels.get n)
        fun k => p.scanList.contains (pointNumber n k) := Quad.get_ofFn _ _
  have chan : (((s.withStore { s.store with active := p }).takeProfile s.store.active).view n).chan
      = { s.channels.get n with retryCount := min (s.channels.get n).retryCount (p.channels.get n).retryBudget } :=
    Quad.get_ofFn _ _
  have listed : ∀ k, ((s.withStore { s.store with active := p }).takeProfile s.store.active).lists n k
      = p.scanList.contains (pointNumber n k) := fun _ => rfl
  constructor
  case count =>
    rw [chan]
    exact Nat.min_le_right _ _
  case below =>
    intro k
    rw [tallies, Tallies.replaced_get]
    split_ifs with cleared
    · exact good.confirm_pos n k
    · have same : ((s.prof n).setting k).confirm = ((p.channels.get n).setting k).confirm := by
        by_contra differs
        simp [tallyCleared, differs] at cleared
      exact same ▸ own.below k
  case absent =>
    intro k out
    rw [tallies, Tallies.replaced_get]
    simp only [tallyCleared, ← listed k, out, Bool.not_false, Bool.or_true, if_true]
  case discarded =>
    intro k out
    have none : (s.scanner.tallies.get n).get k = 0 := own.discarded k (by rw [chan] at out; exact out)
    rw [tallies, Tallies.replaced_get, none, ite_self]
  case flag =>
    intro clear
    rw [tallies] at clear
    simp only [Tallies.replaced] at clear
    split_ifs at clear with armed
    obtain ⟨policy, _, counts⟩ := own.flag clear
    simp only [rearmed, tallyCleared, Bool.or_eq_true, decide_eq_true_eq, Bool.not_eq_true', not_or, not_not,
      Bool.not_eq_false] at armed
    obtain ⟨⟨_, stays⟩, same⟩ := armed
    refine ⟨same ▸ policy, stays, ?_⟩
    rw [chan]
    exact counts

/-! ## Every step -/

theorem State.bringUp_inOrder {s : State} (held : s.HeldUntilRecall) (recalling : s.startup.phase = .recalling)
    (good : s.nv.recall.2.Good) : s.bringUp.InOrder := by
  have before : s.startup.phase ≠ .running := by rw [recalling]; nofun
  have chan : ∀ n, (s.bringUp.view n).chan = channelAtReset := fun n => by
    change s.channels.get n = channelAtReset
    rw [held.channels before, Quad.get_const]
  have tallies : ∀ n, (s.bringUp.view n).tallies = talliesAtReset := fun n => by
    change s.scanner.tallies.get n = talliesAtReset
    rw [held.scanner before]
    exact Quad.get_const _ _
  have target : ∀ n, s.bringUp.targets.get n = (s.bringUp.prof n).floor := fun n => Quad.get_ofFn _ _
  have none : ∀ k, talliesAtReset.get k = 0 := fun k => by cases k <;> rfl
  refine ⟨fun n => ?_, good.slots, fun n => ?_⟩
  · constructor
    case count =>
      rw [chan n]
      exact Nat.zero_le _
    all_goals rw [tallies n]
    case below => exact fun k => (none k).trans_lt (good.confirm_pos n k)
    case absent => exact fun k _ => none k
    case discarded => exact fun k _ => none k
    case flag => exact fun clear => Bool.noConfusion clear
  · rw [target n]
    exact ⟨le_rfl, good.floor_le_ceiling n⟩

theorem State.InOrder.replaces {s : State} {p : Profile} (h : s.InOrder) (good : p.Good) :
    ((s.withStore { s.store with active := p }).takeProfile s.store.active).InOrder where
  chans := InBounds.replaced h.chans good
  position := good.slots
  targets := fun n => by
    show _ ≤ (Quad.ofFn _).get n ∧ (Quad.ofFn _).get n ≤ _
    rw [Quad.get_ofFn]
    exact liveTarget_between good n

theorem inOrder_law : StageLaw Profile.Good State.InOrder where
  same := fun {s t} h same => by
    refine ⟨fun n => (h.chans n).congr same.active ?_ ?_ (fun k => ?_) ?_, ?_, fun n => ?_⟩
    · simp only [State.view, same.channels]
    · simp only [State.view, same.channels]
    · simp only [State.view, same.channels]
    · simp only [State.view, same.scanner]
    · rw [same.scanner, same.active]
      exact h.position
    · rw [State.prof, same.active, same.targets]
      exact h.targets n
  elapse := fun {s} d h => by
    refine ⟨fun n => (h.chans n).congr rfl ?_ ?_ (fun k => ?_) rfl, h.position, h.targets⟩
    · simp [State.view, Channel.elapse]
    · simp [State.view, Channel.elapse]
    · simpa [State.view, Channel.elapse] using sampleCounts_elapse _ _ d k
  moves := fun h _ moved prepared allowed =>
    h.acts moved.acts (inBounds_invariant.follow (G := fun _ => True) trivial (prepared.state ▸ allowed)
      ((h.chans _).prepares prepared))
  tick := fun n _ h => h.tick n
  trip := fun n kind _ h => h.trip n kind
  scan := fun sense _ h => h.scan sense
  targets := fun good h => h.retargeted good
  replaces := fun _ good h => h.replaces good
  bringUp := State.bringUp_inOrder

/-- Before the end of recall counts and tallies are 0 and the position is the first. -/
theorem State.bounds_of_held {t : State} (after : t.HeldUntilRecall) (ok : t.ProfilesOk) (running : t.startup.phase ≠ .running) :
    t.BoundsOk ∧ t.ScanOk := by
  have chan : ∀ n, t.channels.get n = channelAtReset := fun n => by rw [after.channels running, Quad.get_const]
  have tallies : ∀ n, t.scanner.tallies.get n = talliesAtReset := fun n => by
    rw [after.scanner running]
    exact Quad.get_const _ _
  have none : ∀ k, talliesAtReset.get k = 0 := fun k => by cases k <;> rfl
  refine ⟨⟨fun n => by rw [chan n]; exact Nat.zero_le _, fun now => absurd now running⟩, ⟨?_, ?_, ?_, ?_, ?_⟩⟩
  · rw [after.scanner running]
    exact ok.active.slots
  · exact fun n k => by rw [tallies n, none k]; exact ok.active.confirm_pos n k
  · exact fun n k _ => by rw [tallies n, none k]
  · exact fun n k _ => by rw [tallies n, none k]
  · exact fun n clear => by rw [tallies n] at clear; cases clear

/-- Settles O60: before the end of recall counts and tallies are 0 and the position is the first; after it every work keeps them
within the active profile's bounds, and a profile that takes its place brings them within its own. -/
theorem countsAndTargetsStayInBounds : Obligations.CountsAndTargetsStayInBounds := by
  intro s t held profiles bounds scan stepped
  have before : s.startup.phase = .running → s.InOrder := fun running =>
    ⟨fun n => ⟨bounds.retryCount n, scan.below n, scan.absent n, scan.discarded n, scan.flag n⟩, scan.position,
      bounds.targets running⟩
  obtain ⟨after, ok, inOrder⟩ := (inOrder_law.channelLaw.kept profilesOk_kept fun _ => State.ProfilesOk.active).step held
    ⟨profiles, before⟩ stepped
  by_cases running : t.startup.phase = .running
  · have order := inOrder running
    exact ⟨⟨fun n => (order.chans n).count, fun _ => order.targets⟩, ⟨order.position, fun n => (order.chans n).below,
      fun n => (order.chans n).absent, fun n => (order.chans n).discarded, fun n => (order.chans n).flag⟩⟩
  · exact State.bounds_of_held after ok running

end Sys2Proof.Machine

/-! The step, the full resets and the reset state (R188, R191; logs 3, 4, 6, 7, 10, 11), and how a request that arrives is placed,
judged and answered (R173 to R177). -/

namespace Sys2Proof.Machine

/-! ## The step -/

/-- Settles O1: the queue is matched on its front. -/
theorem stepCarriesOutTheFrontCommand : Obligations.StepCarriesOutTheFrontCommand := fun s c rest front => by
  rw [step, front]

theorem step_of_empty {s : State} (empty : s.pending = []) : step s = .next (s.elapse 1) := by
  rw [step, empty]

/-- Settles O2: on an empty queue the step is one millisecond that passes. -/
theorem anEmptyQueueLetsAMillisecondPass : Obligations.AnEmptyQueueLetsAMillisecondPass := by
  intro s empty passed blanked
  have timer : ∀ t : Timer, t.elapse 1 = passed t := fun t => by cases t <;> rfl
  have blank : ∀ t : BlankTimer, t.elapse 1 = blanked t := fun t => by cases t <;> rfl
  refine ⟨s.elapse 1, step_of_empty empty, ?_, fun n => ⟨?_, ?_⟩, ?_, ?_, ?_, ?_, ?_, rfl, rfl, rfl, rfl, empty⟩
  · simp only [State.elapse, StartUp.elapse]
    split_ifs <;> rfl
  all_goals simp only [State.elapse, Quad.get_map, Channel.elapse, timer, blank]

/-! ## The reset state -/

/-- Settles O51: every block is at its reset values, and the link holds nothing. -/
theorem theResetStateIsInOrder : Obligations.TheResetStateIsInOrder := by
  have notRunning : State.reset.startup.phase ≠ .running := nofun
  have held : State.reset.HeldUntilRecall :=
    (State.reset.fullReset_blocksAtReset .power).held (s := State.reset) (fun _ => ⟨rfl, rfl⟩) (fun outside => absurd rfl outside)
  have profiles : State.reset.ProfilesOk := State.ProfilesOk.fullReset State.reset .power
  obtain ⟨bounds, scan⟩ := State.bounds_of_held held profiles notRunning
  refine ⟨noticesAtReset_ok, FaultLog.Ok.cleared (l := logAtReset), ?_, ?_, .ofReset rfl rfl, held, ⟨fun n => ?_, ?_⟩, profiles,
    State.runsSafely_of_held held notRunning, bounds, scan⟩
  · constructor <;> simp [State.reset, linkAtReset, countMark]
  · constructor <;> simp [State.reset, linkAtReset]
  · rw [held.channels notRunning, Quad.get_const]
    exact channelAtReset_ok
  · exact fun running => absurd running notRunning

/-! ## A request that arrives (R173, R174) -/

/-- R169: every row that stands for a request is the receipt of its frame. -/
theorem exec_isRequest {i : Instr} {code tag : Byte} {payload : List Byte} (h : IsRequest i code tag payload) (s : State) :
    exec i s = .next (s.receiveRequest code tag payload) := by
  obtain rfl | rfl | ⟨r, rfl, rfl⟩ := h
  · rfl
  · rfl
  · exact exec_requestCommand r tag payload s

/-- R173, R174: the state in which a request of any code that is served as it arrives finds the part. -/
def State.inService (s : State) (code tag : Byte) (payload : List Byte) : State :=
  { s with
    pins := { s.pins with rxdLow := false }
    link := { s.link with
      phase := .hunt
      collected := []
      gap := .stopped
      lowLine := .stopped
      queue := [newEntry code tag payload .execute] } }

theorem State.inService_code (s : State) (r : RequestName) (tag : Byte) (payload : List Byte) :
    s.inService r.code tag payload = s.asked r tag payload := rfl

/-- R173, R176, R177: the link once a request that arrived has a reply: the receiver hunts, its entry is in service, and an idle
transmitter has begun the reply, which enters the cache if it is one that does. -/
def Link.replying (l : Link) (payload : List Byte) (r : Reply) : Link :=
  { l with
    phase := .hunt
    collected := []
    gap := .stopped
    lowLine := .stopped
    queue := [⟨r.code, r.tag, payload, .execute, some r⟩]
    tx := if l.tx = .idle then .reply r true else l.tx
    cache := if l.tx = .idle then l.cacheFor r else l.cache }

/-- The state once a request has a reply. -/
def State.replying (s : State) (payload : List Byte) (r : Reply) : State :=
  { s with pins := { s.pins with rxdLow := false }, link := s.link.replying payload r }

theorem State.settle_inService (s : State) (payload : List Byte) (r : Reply) :
    ((s.inService r.code r.tag payload).withQueue [{ newEntry r.code r.tag payload .execute with reply := some r }]).settle
      = s.replying payload r := by
  unfold State.settle
  by_cases idle : s.link.tx = .idle <;>
    simp [State.withQueue, State.withLink, State.inService, idle, State.choose, Link.readyReply, newEntry, State.beginReply,
      Link.cacheFor, State.replying, Link.replying]

/-- R174: a request that is served as it arrives is judged, and its reply begins. -/
theorem State.receiveRequest_atOnce {s : State} (h : s.ServesAtOnce) (code tag : Byte) (payload : List Byte) :
    s.receiveRequest code tag payload = ((serveExecute code tag payload (s.inService code tag payload)).1.withQueue
      [{ newEntry code tag payload .execute with
         reply := some (serveExecute code tag payload (s.inService code tag payload)).2 }]).settle := by
  have placed : s.rxdHigh.hunt.withQueue (placeRequest code tag payload s.rxdHigh.hunt.link.queue) = s.inService code tag payload := by
    simp [State.rxdHigh, State.hunt, State.withQueue, State.inService, State.withLink, State.withPins, placeRequest, h.empty,
      countMark, Config.maxExecute]
  rw [State.receiveRequest, if_pos h.hears, State.handOn, placed]
  simp [State.serveHead, State.inService, newEntry, serveEntry]

/-- R174: a request served as it arrives, when the judgement gives a reply and leaves a state that is `t` in service. -/
theorem State.receiveRequest_replies {s t : State} (h : s.ServesAtOnce) {code tag : Byte} {payload : List Byte} {r : Reply}
    (served : serveExecute code tag payload (s.inService code tag payload) = (t.inService code tag payload, r))
    (own : r.code = code ∧ r.tag = tag) : s.receiveRequest code tag payload = t.replying payload r := by
  obtain ⟨rfl, rfl⟩ := own
  rw [State.receiveRequest_atOnce h, served]
  exact t.settle_inService payload r

/-! ## The judgement of a request (R174) -/

section

variable {s : State} {code tag : Byte} {payload : List Byte}

/-- R174 step 1. -/
theorem serveExecute_replay {c : CachedReply} (cached : s.link.replayFor code tag = some c) :
    serveExecute code tag payload s = (s, ⟨code, tag, c.payload, true, false⟩) := by
  rw [serveExecute, cached]

/-- R174 step 2. -/
theorem serveExecute_busy (fresh : s.link.replayFor code tag = none) (early : s.startup.phase ≠ .running) :
    serveExecute code tag payload s = (s, ⟨code, tag, [6], false, false⟩) := by
  rw [serveExecute, fresh]
  exact if_pos early

/-- R174 steps 3 to 7. -/
theorem serveExecute_running (fresh : s.link.replayFor code tag = none) (running : s.startup.phase = .running) :
    serveExecute code tag payload s = ((serveRunning code payload s).1,
      ⟨code, tag, (serveRunning code payload s).2.bytes, true, answerResets code (serveRunning code payload s).2⟩) := by
  rw [serveExecute, fresh]
  exact if_neg (not_not_intro running)

/-- R174 steps 3 to 6: a request turned away with a status. -/
theorem serveExecute_refused (fresh : s.link.replayFor code tag = none) (running : s.startup.phase = .running) {st : Status}
    (refused : serveRunning code payload s = (s, .only st)) (notOk : st ≠ .ok) :
    serveExecute code tag payload s = (s, ⟨code, tag, [byteOf st.code], true, false⟩) := by
  rw [serveExecute_running fresh running, refused]
  simp [answerResets, Answer.only, notOk, Answer.bytes]

end

/-- R174 step 7: an executed request whose owner answers. -/
theorem serveExecute_executes {s : State} {r : RequestName} {tag : Byte} {payload : List Byte} (h : s.Executes r tag payload) :
    serveExecute r.code tag payload (s.inService r.code tag payload)
      = ((ownerServes r payload (s.asked r tag payload)).1,
        ⟨r.code, tag, (ownerServes r payload (s.asked r tag payload)).2.bytes, true,
          answerResets r.code (ownerServes r payload (s.asked r tag payload)).2⟩) := by
  have fresh : (s.inService r.code tag payload).link.replayFor r.code tag = none := h.fresh
  have session : (!(s.asked r tag payload).link.opened && !r.servedClosed) = false := by
    rcases h.session with opened | closed <;> simp [State.asked, *]
  have level : ¬(r.level.code > (s.asked r tag payload).link.level.code) := Nat.not_lt.mpr h.level
  have length : (!r.lengthOk payload) = false := by simp [h.length]
  have known : serveRunning r.code payload (s.inService r.code tag payload) = ownerServes r payload (s.asked r tag payload) := by
    simp only [serveRunning, requestOfCode_code, State.inService_code, serveKnown, session, level, length, if_false,
      Bool.false_eq_true]
  rw [serveExecute_running fresh h.running, known]

/-! ## Full resets -/

/-- Settles O20: each reset is the beginning of a full reset on the pins of its event. -/
theorem fullResetsBeginAndEnd : Obligations.FullResetsBeginAndEnd := by
  refine fun s => ⟨rfl, rfl, fun held => ?_, fun other => ?_⟩
  · simp only [exec, execResetHeldEnd, if_pos held]
    rfl
  · simp only [exec, execResetHeldEnd, if_neg other]

/-- R191: RESET_PART while an operation is in flight. -/
theorem exec_resetPart_busy {s : State} {tag : Byte} (h : s.Executes .resetPart tag []) (busy : s.nv.op.isSome = true) :
    exec (.resetPart tag []) s = .next (s.answered .resetPart tag [] [6]) :=
  exec_executes h s (.only .busy) (if_pos busy) (by simp [answerResets, Answer.only])

/-- R191: an accepted RESET_PART pends the full reset, which its reply's end begins. -/
theorem exec_resetPart_ok {s : State} {tag : Byte} (h : s.Executes .resetPart tag []) (free : s.nv.op = none) :
    exec (.resetPart tag []) s
      = .next ((s.withLink { s.link with resetPending := true }).replying [] ⟨0x07, tag, [0], true, true⟩) := by
  have owner : ownerServes .resetPart [] (s.asked .resetPart tag [])
      = ((s.withLink { s.link with resetPending := true }).inService 0x07 tag [], .only .ok) :=
    if_neg (by simp [State.asked, free])
  have served := serveExecute_executes h
  rw [owner] at served
  exact (exec_requestCommand .resetPart tag [] s).trans (congrArg _ (State.receiveRequest_replies h.atOnce served ⟨rfl, rfl⟩))

/-- R191: a reply whose frame end begins the full reset. -/
theorem exec_replyFrameEnd_resets {s : State} {r : Reply} {held : Bool} (line : s.link.tx = .reply r held)
    (resets : r.resets = true) : exec .replyFrameEnd s = .next s.requestReset := by
  simp only [exec, execReplyFrameEnd, line, resets, if_true]

/-- Settles O19: RESET_PART is answered and pends the reset; the end of that reply's frame begins and ends it at once. -/
theorem resetPartResetsAtItsReplysEnd : Obligations.ResetPartResetsAtItsReplysEnd :=
  ⟨fun _ _ h => ⟨exec_resetPart_busy h, exec_resetPart_ok h⟩, fun _ _ _ line resets => exec_replyFrameEnd_resets line resets⟩

/-! ## Placement and judgement -/

/-- Settles O5: a request behind an entry with its reply is placed and served by nobody, and the transmitter goes on. -/
theorem requestsBehindAnotherAreQueued : Obligations.RequestsBehindAnotherAreQueued := by
  rintro s i code tag payload request hears ⟨e, rest, queue, served⟩ sending
  rw [exec_isRequest request, State.receiveRequest, if_pos hears, State.handOn]
  have headStays : ∀ more, ((s.rxdHigh.hunt.withQueue (e :: more)).serveHead).settle = s.rxdHigh.hunt.withQueue (e :: more) :=
    fun more => by
      have head : (s.rxdHigh.hunt.withQueue (e :: more)).serveHead = s.rxdHigh.hunt.withQueue (e :: more) := if_pos served
      rw [head]
      exact if_neg sending
  have kept : s.rxdHigh.hunt.link.queue = e :: rest := queue
  have placed : ∃ more, placeRequest code tag payload (e :: rest) = e :: more := by
    unfold placeRequest
    split_ifs <;> exact ⟨_, rfl⟩
  obtain ⟨more, placement⟩ := placed
  rw [kept, placement, headStays, ← placement, queue]
  rfl

theorem Link.replayFor_eq_some (l : Link) (code tag : Byte) (c : CachedReply) :
    l.replayFor code tag = some c ↔ l.cache = some c ∧ c.code = code ∧ c.tag = tag := by
  unfold Link.replayFor
  cases l.cache with
  | none => simp
  | some held =>
    simp only [Option.ite_none_right_eq_some, Option.some.injEq]
    exact ⟨fun ⟨own, same⟩ => ⟨same, same ▸ own⟩, fun ⟨same, own⟩ => ⟨same ▸ own, same⟩⟩

theorem lengthOk_putCurve (payload : List Byte) :
    RequestName.putCurve.lengthOk payload = decide (payload.length = 2 + 4 * (payload.getD 1 0).toNat) := by
  match payload with
  | [] | [_] => simp [RequestName.lengthOk]
  | _ :: _ :: _ => rfl

theorem lengthOk_putScanList (payload : List Byte) :
    RequestName.putScanList.lengthOk payload = decide (payload.length = 1 + (payload.getD 0 0).toNat) := by
  cases payload with
  | nil => simp [RequestName.lengthOk]
  | cons => rfl

/-- Section 10.10: the lengths of the index. -/
theorem requestIndex_length : ∀ row ∈ requestIndex, ∀ payload,
    row.name.lengthOk payload = decide (payload.length = row.length payload) := by
  simp only [requestIndex, List.cons_append, List.nil_append, List.forall_mem_cons, lengthOk_putCurve, lengthOk_putScanList]
  simp [RequestName.lengthOk]

/-- Section 10.10: the codes and levels of the index. -/
theorem requestIndex_agrees : ∀ row ∈ requestIndex, row.name.code = row.code ∧ requestOfCode row.code = some row.name
    ∧ row.name.servedClosed = row.level.isNone ∧ row.name.level = row.level.getD .observe := by
  decide

theorem requestIndex_complete (r : RequestName) : ∃ row ∈ requestIndex, row.name = r := by
  have all : ∀ r ∈ allRequests, ∃ row ∈ requestIndex, row.name = r := by decide
  refine all r ?_
  cases r <;> decide

/-- A code that no row has names no request. -/
theorem requestOfCode_eq_none {code : Byte} (absent : ∀ row ∈ requestIndex, row.code ≠ code) : requestOfCode code = none := by
  refine List.find?_eq_none.mpr fun r _ => ?_
  obtain ⟨row, listed, rfl⟩ := requestIndex_complete r
  rw [(requestIndex_agrees row listed).1]
  exact fun same => absent row listed (of_decide_eq_true same)

section

variable {s : State} {r : RequestName} {payload : List Byte}

/-- R174 step 4. -/
theorem serveKnown_noSession (closed : s.link.opened = false) (needs : r.servedClosed = false) :
    serveKnown r payload s = (s, .only .noSession) := by
  rw [serveKnown, if_pos (by simp [closed, needs])]

theorem serveKnown_session (session : s.link.opened = true ∨ r.servedClosed = true) : ¬(!s.link.opened && !r.servedClosed) = true := by
  rcases session with opened | closed <;> simp [*]

/-- R174 step 5. -/
theorem serveKnown_denied (session : s.link.opened = true ∨ r.servedClosed = true) (above : s.link.level.code < r.level.code) :
    serveKnown r payload s = (s, .only .denied) := by
  rw [serveKnown, if_neg (serveKnown_session session), if_pos above]

/-- R174 step 6. -/
theorem serveKnown_length (session : s.link.opened = true ∨ r.servedClosed = true) (level : r.level.code ≤ s.link.level.code)
    (other : r.lengthOk payload = false) : serveKnown r payload s = (s, .only .length) := by
  rw [serveKnown, if_neg (serveKnown_session session), if_neg (Nat.not_lt.mpr level), if_pos (by simp [other])]

end

/-- A request served as it arrives that is judged without any work. -/
theorem exec_judged {s : State} {i : Instr} {code tag : Byte} {payload : List Byte} (atOnce : s.ServesAtOnce)
    (request : IsRequest i code tag payload) {r : Reply}
    (judged : serveExecute code tag payload (s.inService code tag payload) = (s.inService code tag payload, r))
    (own : r.code = code ∧ r.tag = tag) : exec i s = .next (s.replying payload r) := by
  rw [exec_isRequest request, State.receiveRequest_replies atOnce judged own]

/-- Settles O4: the steps of R174 in their order, each on the state with the request's entry in service. -/
theorem requestsAreJudgedInOrder : Obligations.RequestsAreJudgedInOrder := by
  refine ⟨?judged, Link.replayFor_eq_some, requestIndex_complete, ?index⟩
  case index =>
    intro row listed
    obtain ⟨code, name, closed, level⟩ := requestIndex_agrees row listed
    exact ⟨code, name, closed, level, requestIndex_length row listed⟩
  case judged =>
    intro s i code tag payload atOnce request answered
    have judged {r : Reply} := exec_judged (r := r) atOnce request
    refine ⟨fun c cached => ?replay, fun fresh early => ?busy, fun fresh running => ?known⟩
    case replay => exact judged (serveExecute_replay cached) ⟨rfl, rfl⟩
    case busy =>
      rw [judged (serveExecute_busy fresh early) ⟨rfl, rfl⟩]
      simp only [State.replying, Link.replying, Link.answered, Link.cacheFor, Bool.false_eq_true, if_false, ite_self]
    case known =>
      have refused {st : Status} (turned : serveRunning code payload (s.inService code tag payload)
          = (s.inService code tag payload, .only st)) (notOk : st ≠ .ok) : answered [byteOf st.code] :=
        judged (r := ⟨code, tag, [byteOf st.code], true, false⟩) 
          (serveExecute_refused (s := s.inService code tag payload) fresh running turned notOk) ⟨rfl, rfl⟩
      refine ⟨fun absent => ?_, fun row listed own => ?_⟩
      · refine refused (st := .unknown) ?_ nofun
        rw [serveRunning, requestOfCode_eq_none absent]
      · obtain ⟨_, name, servedClosed, level⟩ := requestIndex_agrees row listed
        have known : serveRunning code payload (s.inService code tag payload)
            = serveKnown row.name payload (s.inService code tag payload) := by
          rw [serveRunning, ← own, name]
        have session : s.link.opened = true ∨ row.level = none → s.link.opened = true ∨ row.name.servedClosed = true :=
          Or.imp_right fun none => by rw [servedClosed, none]; rfl
        refine ⟨fun closed needs => ?_, fun passes ⟨l, needs, above⟩ => ?_, fun passes enough differs => ?_⟩
        · refine refused (st := .noSession) (known.trans (serveKnown_noSession closed ?_)) nofun
          rw [servedClosed]
          exact Option.isNone_eq_false_iff.mpr (Option.isSome_iff_ne_none.mpr needs)
        · refine refused (st := .denied) (known.trans (serveKnown_denied (session passes) ?_)) nofun
          rw [level, needs]
          exact above
        · refine refused (st := .length) (known.trans (serveKnown_length (session passes) ?_ ?_)) nofun
          · rw [level]
            cases needs : row.level with
            | none => exact Nat.zero_le _
            | some l => exact enough l needs
          · rw [requestIndex_length row listed]
            exact decide_eq_false differs

end Sys2Proof.Machine

/-! The bytes of frames and notices (R166, R178, section 10.11), and what the transmitter chooses (R159, R177). -/

namespace Sys2Proof.Machine

/-! ## The frame check (R166) -/

theorem crcBit_eq (reg : BitVec 16) (bit : Bool) :
    crcBit reg bit = if reg.msb = bit then reg <<< 1 else (reg <<< 1) ^^^ 0x1021#16 := by
  have msb : reg.getLsbD 15 = reg.msb := (BitVec.msb_eq_getLsbD_last reg).symm
  unfold crcBit
  rw [msb]
  cases reg.msb <;> cases bit <;> rfl

/-- R166: the check is the remainder of the division, bit by bit. -/
theorem checkOf_eq_crc (bytes : List Byte) : checkOf bytes = crc bytes := by
  have byte : ∀ (reg : BitVec 16) (b : Byte), (bitsOf b).foldl crcBit reg = crcByte reg b := fun _ _ => rfl
  unfold checkOf crc
  simp only [← crcBit_eq]
  rw [List.foldl_flatMap]
  simp only [byte]
  rfl

theorem crcBytes_eq (bytes : List Byte) : crcBytes bytes = littleEndian 2 (checkOf bytes).toNat := by
  rw [littleEndian_two, le16i_natCast, checkOf_eq_crc, crcBytes]

/-- R166: a frame's bytes are its layout. -/
theorem frameBytes_eq (cls code tag : Byte) (payload : List Byte) : frameBytes cls code tag payload = wireFrame cls code tag payload := by
  rw [frameBytes, crcBytes_eq]
  rfl

/-! ## The bodies of notices (R153, R154) -/

theorem Point.index_eq (p : Point) : codeAmong allPoints p = byteOf p.index := by
  have all : ∀ p ∈ allPoints, codeAmong allPoints p = byteOf p.index := by decide
  exact all p (mem_allPoints p)

theorem WaitSet.mask_eq (w : WaitSet) : waitMask w = byteOf w.mask := by
  obtain ⟨supply, temperature, thermal, profile, coverage⟩ := w
  revert supply temperature thermal profile coverage
  decide

/-- Section 10.11: a notice's body is its layout, field by field. -/
theorem NoticeBody.layout_eq (b : NoticeBody) : b.layout = (byteOf b.kind.code, b.bytes) := by
  cases b with
  | start cause outcome generation =>
    simp only [NoticeBody.layout, NoticeBody.bytes, littleEndian_four]
    cases cause <;> cases outcome <;> rfl
  | channel n before after cause wait =>
    simp only [NoticeBody.layout, NoticeBody.bytes, stateCode_eq]
    cases wait with
    | none => cases cause <;> rfl
    | some w =>
      simp only [WaitSet.mask_eq]
      cases cause <;> rfl
  | trip number n kind action =>
    simp only [NoticeBody.layout, NoticeBody.bytes, littleEndian_two, le16i_natCast, tripKindCode_eq, actionCode_eq]
    rfl
  | warning p state smoothed =>
    simp only [NoticeBody.layout, NoticeBody.bytes, littleEndian_two, Point.index_eq]
    cases state <;> rfl
  | supply ok smoothed band =>
    simp only [NoticeBody.layout, NoticeBody.bytes, littleEndian_two]
    rfl
  | store done slot generation =>
    simp only [NoticeBody.layout, NoticeBody.bytes, littleEndian_four]
    cases done <;> cases slot <;> rfl
  | editClosed cause => cases cause <;> rfl

/-! ## Posting (R156) -/

theorem countLost_append (older : List Notice) (newest : Notice) :
    countLost (older ++ [newest]) = older ++ [{ newest with lostAfter := min 255 (newest.lostAfter + 1) }] := by
  induction older with
  | nil =>
    have saturated : saturate255 (newest.lostAfter + 1) = min 255 (newest.lostAfter + 1) := by
      unfold saturate255
      split_ifs <;> omega
    simp only [List.nil_append, countLost, saturated]
  | cons n rest ih =>
    have more : rest ++ [newest] ≠ [] := by simp
    rw [List.cons_append, countLost.eq_3 _ _ more, ih]
    rfl

/-- Settles O18: the layout by the kinds, and posting by the mask and the room in the queue. -/
theorem postedNoticesAreQueuedOrCounted : Obligations.PostedNoticesAreQueuedOrCounted := by
  intro s body
  have posts : ∀ q, s.notices.post body = q → s.post body = { s with notices := q } := fun q posted => by
    rw [State.post, posted]
    rfl
  refine ⟨body.layout_eq, fun masked => ?_, fun admitted => ⟨fun room => ?_, fun older newest queue full => ?_⟩⟩
  · exact posts s.notices (if_pos (by rw [show s.notices.admits body.kind = false from masked]; rfl))
  all_goals
    have admits : s.notices.admits body.kind = true := admitted
    obtain ⟨out, _⟩ | ⟨_, fills, posted⟩ | ⟨_, fits, posted⟩ := s.notices.post_cases body
    · exact absurd (out.symm.trans admits) Bool.false_ne_true
  · omega
  · exact ⟨posts _ posted, by simp [posts _ posted, State.attn]⟩
  · rw [posts _ posted, queue, countLost_append]
  · rw [queue, List.length_append] at fits
    simp only [List.length_singleton] at fits
    omega

/-! ## The transmitter (R159, R177) -/

/-- R159: the queue in which the SENT notices come first: its oldest UNSENT notice. -/
theorem find_unsent {sent waiting : List Notice} {n : Notice} (allSent : ∀ m ∈ sent, m.sent = true) (fresh : n.sent = false) :
    (sent ++ n :: waiting).find? (fun m => !m.sent) = some n := by
  rw [List.find?_append, List.find?_eq_none.mpr fun m hm => by simp [allSent m hm]]
  simp [fresh]

theorem markFirstUnsent_append {sent waiting : List Notice} {n : Notice} (allSent : ∀ m ∈ sent, m.sent = true)
    (fresh : n.sent = false) : markFirstUnsent (sent ++ n :: waiting) = sent ++ { n with sent := true } :: waiting := by
  induction sent with
  | nil => simp [markFirstUnsent, fresh]
  | cons m rest ih =>
    obtain ⟨first, others⟩ := List.forall_mem_cons.mp allSent
    simp [markFirstUnsent, first, ih others]

/-- Settles O8: the frames by their layout; the choice by the head entry's reply, then the notice offered. -/
theorem transmitterChoosesAReplyThenANotice : Obligations.TransmitterChoosesAReplyThenANotice := by
  refine ⟨fun r held => frameBytes_eq _ _ _ _, fun n => ?_, rfl, fun s => ⟨fun sending => if_neg sending, ?_, ?_⟩⟩
  · rw [NoticeBody.layout_eq]
    exact frameBytes_eq _ _ _ _
  · intro e rest r idle queue reply
    have ready : s.link.readyReply = some r := by simp [Link.readyReply, queue, reply]
    simp only [State.settle, idle, if_true, State.choose, ready]
    rfl
  · intro waits idle
    have unready : s.link.readyReply = none := by
      obtain empty | ⟨e, rest, queue, unserved⟩ := waits
      · simp [Link.readyReply, empty]
      · simp [Link.readyReply, queue, unserved]
    have begins : ∀ n, s.offered = some n → s.settle = s.beginNotice n := fun n offered => by
      simp only [State.settle, idle, if_true, State.choose, unready, offered]
    have stays : s.offered = none → s.settle = s := fun offered => by
      simp only [State.settle, idle, if_true, State.choose, unready, offered]
    refine ⟨fun sent waiting n opened queue allSent allWait window => ?_, fun idleFor => ?_⟩
    · obtain ⟨fresh, _⟩ := List.forall_mem_cons.mp allWait
      have counted : ((sent ++ n :: waiting).filter (·.sent)).length = sent.length := by
        rw [List.filter_append, List.filter_eq_self.mpr allSent,
          List.filter_eq_nil_iff.mpr fun m hm => by simp [allWait m hm], List.append_nil]
      have offered : s.offered = some n := by
        rw [State.offered, queue, counted, if_pos ⟨opened, window⟩]
        exact find_unsent allSent fresh
      rw [begins n offered]
      simp only [State.beginNotice, queue, markFirstUnsent_append allSent fresh]
      rfl
    · have offered : s.offered = none := by
        unfold State.offered
        split_ifs with open_
        · obtain closed | full | allSent := idleFor
          · exact absurd open_.1 (by simp [closed])
          · exact absurd open_.2 (Nat.not_lt.mpr full)
          · exact List.find?_eq_none.mpr fun m hm => by simp [allSent m hm]
        · rfl
      exact stays offered

/-! ## The ends of frames (R160, R177) -/

theorem exec_replyFrameEnd {s : State} {r : Reply} {held : Bool} (line : s.link.tx = .reply r held) (stays : r.resets = false) :
    exec .replyFrameEnd s = .next (s.replyEnds held) := by
  simp [exec, execReplyFrameEnd, line, stays]

/-- Settles O6: the entry leaves, the next is served, and an idle transmitter chooses. -/
theorem frameEndsFreeTheTransmitter : Obligations.FrameEndsFreeTheTransmitter := by
  refine fun s => ⟨fun r done stays line queue => ?_, fun r done e more stays line queue mark unserved => ?_,
    fun r stays line => ?_, fun m line => ?_⟩
  · rw [exec_replyFrameEnd line stays, State.replyEnds, queue]
    rfl
  · rw [exec_replyFrameEnd line stays, State.replyEnds, queue]
    obtain ⟨code, tag, payload, _, _⟩ := e
    obtain rfl : _ = Mark.overrun := mark
    obtain rfl : _ = none := unserved
    rfl
  · rw [exec_replyFrameEnd line stays]
    rfl
  · have told : (∃ n ∈ s.notices.queue, n.sent = true) ↔ s.notices.queue.any (·.sent) = true := by simp
    simp only [exec, execNoticeFrameEnd, line, State.noticeEnds, told]
    split_ifs <;> rfl

end Sys2Proof.Machine

/-! The requests on notices, the session, the edit, the store and the measured points, and the timers of the link and the edit:
what each answers and what it leaves. -/

namespace Sys2Proof.Machine

/-! ## Executed requests -/

section

variable {s : State} {r : RequestName} {tag : Byte} {payload : List Byte}

/-- R175: a request that its owner refuses changes the link alone. -/
theorem exec_refuses (h : s.Executes r tag payload) {st : Status} (notOk : st ≠ .ok)
    (owner : ownerServes r payload (s.asked r tag payload) = (s.asked r tag payload, .only st)) :
    exec (requestCommand r tag payload) s = .next (s.answered r tag payload [byteOf st.code]) :=
  exec_executes h s (.only st) owner (by simp [answerResets, Answer.only, notOk])

/-- R174, R175: a request other than RESET_PART whose owner answers OK. -/
theorem exec_oks (h : s.Executes r tag payload) (notReset : r ≠ .resetPart) (t : State) {fields : List Byte}
    (owner : ownerServes r payload (s.asked r tag payload) = (t.asked r tag payload, .okWith fields)) :
    exec (requestCommand r tag payload) s = .next (t.answered r tag payload (0 :: fields)) :=
  exec_executes h t (.okWith fields) owner (by simp [answerResets, requestOfCode_code, notReset])

end

/-! ## Notices (R158, R161) -/

/-- R158: the mask taken keeps the START term and the bits given. -/
theorem noticeMask_bits {m : Byte} (inRange : m.toNat ≤ 127) {k : Nat} (other : 1 ≤ k) :
    (m.setWidth 7 ||| startTerm).getLsbD k = m.getLsbD k := by
  have one : startTerm.getLsbD k = false := by
    have zero : ¬k = 0 := Nat.one_le_iff_ne_zero.mp other
    show (1#7).getLsbD k = false
    rw [BitVec.getLsbD_one, decide_eq_false zero, Bool.and_false]
  rw [BitVec.getLsbD_or, one, Bool.or_false, BitVec.getLsbD_setWidth]
  by_cases low : k < 7
  · simp [low]
  · have above : m.toNat < 2 ^ k :=
      (Nat.lt_succ_of_le inRange).trans_le (Nat.pow_le_pow_right (n := 2) (by norm_num) (Nat.le_of_not_lt low))
    simp [low, BitVec.getLsbD, Nat.testBit_lt_two_pow above]

/-- Settles O16: the range, then the mask with the START term. -/
theorem setNoticeMaskKeepsStart : Obligations.SetNoticeMaskKeepsStart := by
  refine fun s tag m h => ⟨fun above => ?_, fun inRange => ?_⟩
  · exact exec_outOfRange h fun u => if_pos above
  · refine ⟨m.setWidth 7 ||| startTerm, ?_, fun k other => noticeMask_bits inRange other, ?_⟩
    · simp [startTerm]
    · exact exec_oks h nofun { s with notices := { s.notices with mask := m.setWidth 7 ||| startTerm } }
        (if_neg (Nat.not_lt.mpr inRange))

theorem dropThrough_append {seq : Byte} {older newer : List Notice} {n : Notice} (sent : n.sent = true) (named : n.seq = seq)
    (others : ∀ m ∈ older, m.seq ≠ seq) : dropThrough seq (older ++ n :: newer) = newer := by
  induction older with
  | nil => simp [dropThrough, isSentAs, sent, named]
  | cons m rest ih =>
    obtain ⟨first, later⟩ := List.forall_mem_cons.mp others
    simp [dropThrough, isSentAs, first, ih later]

/-- Settles O17: the notice named and all older ones leave, or none is named. -/
theorem ackNoticesRemovesThroughASentNotice : Obligations.AckNoticesRemovesThroughASentNotice := by
  refine fun s tag seq h => ⟨fun older newer n queue sent named others => ?_, fun none => ?_⟩
  · have any : (older ++ n :: newer).any (isSentAs seq) = true := by simp [isSentAs, sent, named]
    have drops := dropThrough_append (newer := newer) sent named others
    have left : (older ++ n :: newer).length - newer.length = older.length + 1 := by
      simp only [List.length_append, List.length_cons]
      omega
    have timer : ackTimerFor newer = if ∃ m ∈ newer, m.sent = true then .running 250 else .stopped := by
      simp [ackTimerFor, Config.ackPeriod]
    refine exec_oks h nofun _ ?_
    have asked : (s.asked .ackNotices tag [seq]).notices.queue = older ++ n :: newer := queue
    simp only [ownerServes, serveAckNotices, asked, any, if_true, drops, left, timer]
    rfl
  · refine exec_refuses h (st := .range) nofun (if_neg ?_)
    simpa [isSentAs, State.asked] using none

/-! ## The session (R181, R182, R185, R186) -/

/-- R118: an edit closed is the store with no edit and the notice of it. -/
theorem State.closeEdit_eq (s : State) (cause : EditCause) : s.closeEdit cause = { s with
    store := if s.store.staged.isSome then { s.store with staged := none, idle := .stopped } else s.store
    notices := if s.store.staged.isSome then s.notices.post (.editClosed cause) else s.notices } := by
  unfold State.closeEdit
  split_ifs <;> rfl

/-- R181: what HELLO leaves. -/
theorem State.hello_eq (s : State) : s.hello = { s with
    store := if s.link.opened && s.store.staged.isSome then { s.store with staged := none, idle := .stopped } else s.store
    notices :=
      if s.link.opened then (if s.store.staged.isSome then s.notices.post (.editClosed .level) else s.notices).unsend
      else s.notices
    link := { s.link with cache := none, opened := true, level := .observe } } := by
  unfold State.hello
  cases s.link.opened with
  | true =>
    rw [if_pos rfl, State.closeEdit_eq]
    simp only [Bool.true_and]
    rfl
  | false => rfl

/-- R181 step 4. -/
theorem helloFields_eq (s : State) : helloFields s = [2, 0x42, 0x34] ++ le32 s.store.active.generation
    ++ (match s.notices.queue with
      | [] => [0]
      | n :: _ => [1, n.seq])
    ++ [s.notices.nextSeq] := by
  unfold helloFields
  cases s.notices.queue <;> rfl

theorem exec_hello {s : State} {tag : Byte} (h : s.Executes .hello tag []) :
    exec (.hello tag []) s = .next (s.hello.answered .hello tag [] (0 :: helloFields s.hello)) := by
  have served : (s.asked .hello tag []).hello = s.hello.asked .hello tag [] := by
    rw [State.hello_eq, State.hello_eq]
    rfl
  refine exec_oks h nofun s.hello ?_
  simp only [ownerServes, serveHello, served]
  rfl

/-- Settles O14: HELLO by whether the session is open, and BYE. -/
theorem helloAndByeSetTheSession : Obligations.HelloAndByeSetTheSession := by
  refine fun s tag => ⟨fun h => ?_, fun h => ?_⟩
  · intro closes told notices
    have queue : notices = s.hello.notices := by
      rw [State.hello_eq]
      cases opened : s.link.opened <;> simp [notices, told, closes, opened]
    rw [exec_hello h, helloFields_eq, ← queue]
    have left : s.hello = { s with
        store := if closes then { s.store with staged := none, idle := .stopped } else s.store
        notices := notices
        link := { s.link with cache := none, opened := true, level := .observe } } := by
      rw [queue, State.hello_eq]
    have generation : s.hello.store.active = s.store.active := by
      rw [State.hello_eq]
      dsimp only
      split_ifs <;> rfl
    rw [generation, left]
    rfl
  · refine exec_oks h nofun _ (fields := []) ?_
    simp only [ownerServes, serveBye, State.closeEdit_eq]
    rfl

theorem levelIn_eq_none {l : Byte} (above : 2 < l.toNat) : levelIn l = none := by
  have differs : ∀ b : Byte, b.toNat ≤ 2 → l ≠ b := fun b small same => by subst same; omega
  rw [levelIn, if_neg (differs 0 (by decide)), if_neg (differs 1 (by decide)), if_neg (differs 2 (by decide))]

theorem levelIn_eq_some {l : Byte} {level : Level} (code : level.code = l.toNat) : levelIn l = some level := by
  obtain rfl : l = byteOf level.code := by rw [code, byteOf_toNat_self]
  cases level <;> rfl

/-- R185: what a grant leaves. -/
theorem State.grantLevel_eq (s : State) (l : Level) : s.grantLevel l = { s with
    link := { s.link with level := l }
    store := if s.store.staged.isSome ∧ l.code < 2 then { s.store with staged := none, idle := .stopped } else s.store
    notices := if s.store.staged.isSome ∧ l.code < 2 then s.notices.post (.editClosed .level) else s.notices } := by
  unfold State.grantLevel
  dsimp only
  rw [State.closeEdit_eq]
  have below : l ≠ .calibrate ↔ l.code < 2 := by cases l <;> simp [Level.code]
  by_cases closes : s.store.staged.isSome ∧ l.code < 2
  · rw [if_neg (below.mpr closes.2), if_pos closes, if_pos closes]
    exact congrArg₂ (fun store notices => ({ s with link := { s.link with level := l }, store := store, notices := notices } : State))
      (if_pos closes.1) (if_pos closes.1)
  · rw [if_neg closes, if_neg closes]
    by_cases calibrate : l = .calibrate
    · rw [if_pos calibrate]
      rfl
    · have shut : ¬s.store.staged.isSome = true := fun opened => closes ⟨opened, below.mp calibrate⟩
      rw [if_neg calibrate]
      exact congrArg₂ (fun store notices => ({ s with link := { s.link with level := l }, store := store, notices := notices } : State))
        (if_neg shut) (if_neg shut)

section

variable {s : State} {tag l c0 c1 c2 c3 : Byte}

/-- R185: a level that is not above the present one, or OPERATE, is granted. -/
theorem exec_setLevel_granted (h : s.Executes .setLevel tag [l, c0, c1, c2, c3]) {level : Level} (code : level.code = l.toNat)
    (granted : level.code ≤ s.link.level.code ∨ level = .operate) :
    exec (.setLevel tag [l, c0, c1, c2, c3]) s = .next ((s.grantLevel level).answered .setLevel tag [l, c0, c1, c2, c3] [0, l]) := by
  have bytes : grantAnswer level = .okWith [l] := by rw [grantAnswer, code, byteOf_toNat_self]
  have left : (s.asked .setLevel tag [l, c0, c1, c2, c3]).grantLevel level
      = (s.grantLevel level).asked .setLevel tag [l, c0, c1, c2, c3] := by
    rw [State.grantLevel_eq, State.grantLevel_eq]
    rfl
  refine exec_oks h nofun (s.grantLevel level) ?_
  have asked : level.code ≤ (s.asked .setLevel tag [l, c0, c1, c2, c3]).link.level.code ∨ level = .operate := granted
  simp only [ownerServes, serveSetLevel, levelIn_eq_some code, asked, if_true, left, bytes]

/-- R186: CALIBRATE from below is judged by lockout and code. -/
theorem setLevel_judges (named : l.toNat = 2) (below : s.link.level.code < 2) :
    ownerServes .setLevel [l, c0, c1, c2, c3] (s.asked .setLevel tag [l, c0, c1, c2, c3])
      = (s.asked .setLevel tag [l, c0, c1, c2, c3]).judgeCode (u32 c0 c1 c2 c3) := by
  have above : ¬(Level.calibrate.code ≤ (s.asked .setLevel tag [l, c0, c1, c2, c3]).link.level.code ∨ Level.calibrate = .operate) := by
    rintro (le | same)
    · exact absurd below (Nat.not_lt.mpr le)
    · cases same
  simp only [ownerServes, serveSetLevel, levelIn_eq_some (level := .calibrate) named.symm, above, if_false]

end

/-- Settles O15: the range, the grant, and the judgement of a code. -/
theorem setLevelGrantsOrJudges : Obligations.SetLevelGrantsOrJudges := by
  intro s tag l c0 c1 c2 c3 h answered
  refine ⟨fun above => ?_, fun level code granted => ?_, fun named below => ⟨fun left locked => ?_, fun free right => ?_,
    fun free wrong => ?_⟩⟩
  · refine exec_refuses h (st := .range) nofun ?_
    simp only [ownerServes, serveSetLevel, levelIn_eq_none above]
  · have grants : level.code ≤ s.link.level.code ∨ level = .operate := by
      rw [code]
      refine granted.imp_right fun one => ?_
      cases level <;> simp_all [Level.code]
    have served := exec_setLevel_granted h code grants
    rw [State.grantLevel_eq, code] at served
    exact served
  all_goals have judged := setLevel_judges (s := s) (tag := tag) (c0 := c0) (c1 := c1) (c2 := c2) (c3 := c3) named below
  · refine exec_refuses h (st := .lockout) nofun (judged.trans ?_)
    have asked : (s.asked .setLevel tag [l, c0, c1, c2, c3]).link.lockout = .running left := locked
    simp only [State.judgeCode, asked]
  all_goals have asked : (s.asked .setLevel tag [l, c0, c1, c2, c3]).link.lockout = .stopped := free
  · refine exec_oks h nofun { s with link := { s.link with level := .calibrate, failures := 0 } } (judged.trans ?_)
    have code : u32 c0 c1 c2 c3 = (s.asked .setLevel tag [l, c0, c1, c2, c3]).store.active.accessCode := right
    simp only [State.judgeCode, asked, code, if_true]
    rfl
  · refine exec_executes h { s with link := { s.link with
        failures := s.link.failures + 1
        lockout := if s.link.failures + 1 = 3 then .running 10000 else .stopped } } (.only .denied) (judged.trans ?_)
      (by simp [answerResets, Answer.only])
    have code : ¬u32 c0 c1 c2 c3 = (s.asked .setLevel tag [l, c0, c1, c2, c3]).store.active.accessCode := wrong
    simp only [State.judgeCode, asked, code, if_false, State.codeWrong]
    rfl

/-! ## The edit (R107, R109, R118) -/

/-- Settles O39: each request by whether an edit is open. -/
theorem editsOpenAndAreAbandoned : Obligations.EditsOpenAndAreAbandoned := by
  refine fun s tag => ⟨fun h => ⟨fun closed => ?_, fun opened => ?_⟩, fun h => ⟨fun opened => ?_, fun closed => ?_⟩⟩
  · exact exec_oks h nofun { s with store := { s.store with staged := some s.store.active, idle := .running 120000 } }
      (if_neg (by simp [State.asked, closed]))
  · exact exec_refuses h (st := .state) nofun (if_pos (Option.isSome_iff_ne_none.mpr opened))
  · exact exec_oks h nofun { s with store := { s.store with staged := none, idle := .stopped } } (fields := [])
      (if_pos (Option.isSome_iff_ne_none.mpr opened))
  · exact exec_refuses h (st := .noEdit) nofun (if_neg (by simp [State.asked, closed]))

/-- R109: all PUT requests are served alike. -/
theorem ownerServes_put {r : RequestName} (isPut : r ∈ putRequests) (payload : List Byte) (s : State) :
    ownerServes r payload s = servePut (stagedAfter r payload) s := by
  simp only [putRequests, List.mem_cons, List.not_mem_nil, or_false] at isPut
  obtain rfl | rfl | rfl | rfl | rfl | rfl | rfl | rfl := isPut <;> rfl

/-- Settles O40: a PUT by whether an edit is open and its fields are in range. -/
theorem putRequestsChangeOnlyTheStagedCopy : Obligations.PutRequestsChangeOnlyTheStagedCopy := by
  intro s r tag payload isPut h
  have notReset : r ≠ .resetPart := by
    rintro rfl
    exact absurd isPut (by decide)
  have owner := ownerServes_put isPut payload (s.asked r tag payload)
  have asked : (s.asked r tag payload).store = s.store := rfl
  refine ⟨fun closed => ?_, fun p opened none => ?_, fun p q opened taken => ?_⟩
  · refine exec_refuses h (st := .noEdit) nofun (owner.trans ?_)
    simp only [servePut, asked, closed]
  · refine exec_refuses h (st := .range) nofun (owner.trans ?_)
    simp only [servePut, asked, opened, none]
  · refine exec_oks h notReset _ (fields := []) (owner.trans ?_)
    simp only [servePut, asked, opened, taken]
    rfl

/-! ## Measured points (R99, R100) -/

theorem u16_toNat (lo hi : Byte) : u16 lo hi = (hi ++ lo : BitVec 16).toNat := by
  rw [← ofNat_u16, BitVec.toNat_ofNat, Nat.mod_eq_of_lt]
  have := lo.isLt
  have := hi.isLt
  unfold u16
  omega

/-- Settles O49: the mask's range, then the fields point by point. -/
theorem readPointsReportsTheNamedRecords : Obligations.ReadPointsReportsTheNamedRecords := by
  intro s tag m0 m1 h mask named
  have zero : u16 m0 m1 = 0 ↔ mask = 0 := by
    rw [u16_toNat]
    exact ⟨fun same => BitVec.eq_of_toNat_eq same, fun same => congrArg BitVec.toNat same⟩
  refine ⟨fun outside => ?_, fun some_ inRange few => ?_⟩
  · refine exec_refuses h (st := .range) nofun (if_pos ?_)
    rw [zero, u16_toNat]
    exact outside
  · have fields : ownerServes .readPoints [m0, m1] (s.asked .readPoints tag [m0, m1])
        = (s.asked .readPoints tag [m0, m1], .okWith (readPointsFields s m0 m1)) := by
      refine if_neg ?_
      rw [zero, u16_toNat]
      rintro (none | above | many)
      exacts [some_ none, Nat.not_lt.mpr inRange above, Nat.not_lt.mpr few many]
    have served := exec_reports h nofun fields
    unfold readPointsFields at served
    have mode : byteOf s.seq.mode.code = match s.seq.mode with
        | .restricted => 0
        | .full => 1 := by cases s.seq.mode <;> rfl
    rw [mode] at served
    exact served

/-! ## The timers of the link and the edit (R108, R160, R170, R187) -/

/-- Settles O9: each timer running, and each stopped. -/
theorem linkAndEditTimersExpire : Obligations.LinkAndEditTimersExpire := by
  refine fun s left => ⟨fun ack => ?_, fun lockout => ?_, fun idle opened => ?_, fun gap => ?_, fun ack => ?_, fun lockout => ?_,
    fun idle => ?_, fun gap => ?_⟩
  · show execAcknowledgementTimerExpiry s = _
    rw [execAcknowledgementTimerExpiry, ack]
    rfl
  · show execLockoutTimerExpiry s = _
    rw [execLockoutTimerExpiry, lockout]
    rfl
  · show execEditIdleTimerExpiry s = _
    rw [execEditIdleTimerExpiry, idle]
    have closes : (s.elapse left).store.staged.isSome = true := opened
    dsimp only
    rw [State.editIdleExpires, State.closeEdit_eq, if_pos closes, if_pos closes]
    rfl
  · show execGapTimerExpiry s = _
    rw [execGapTimerExpiry, gap]
    rfl
  · show execAcknowledgementTimerExpiry s = _
    rw [execAcknowledgementTimerExpiry, ack]
  · show execLockoutTimerExpiry s = _
    rw [execLockoutTimerExpiry, lockout]
  · show execEditIdleTimerExpiry s = _
    rw [execEditIdleTimerExpiry, idle]
  · show execGapTimerExpiry s = _
    rw [execGapTimerExpiry, gap]

/-! ## Persistence (R129 to R134) -/

/-- R129: slot B is written exactly where slot A holds the newest image. -/
theorem slotToWrite_eq_b {a b : SlotStatus} : slotToWrite a b = .b
    ↔ a.valid = true ∧ (b.valid = true → b.generation.toNat ≤ a.generation.toNat) := by
  unfold slotToWrite newestValid
  cases a.valid <;> cases b.valid <;> dsimp only
  · simp
  · simp
  · simp
  · split_ifs with later
    · simpa using later
    · simpa using later

theorem SlotName.eq_of_b_iff {n m : SlotName} (h : n = .b ↔ m = .b) : n = m := by cases n <;> cases m <;> simp_all

/-- R130: the mark of the slot to write goes first. -/
theorem NvStore.startPersist_pages_target (v : NvStore) (active : Profile) :
    (v.startPersist active).pages (slotToWrite v.statusA v.statusB)
      = { v.pages (slotToWrite v.statusA v.statusB) with completionMark := false } := by
  unfold NvStore.startPersist
  dsimp only
  cases slotToWrite v.statusA v.statusB <;> rfl

/-- Settles O45: whether an operation is in flight. -/
theorem persistStartsAnOperation : Obligations.PersistStartsAnOperation := by
  refine fun s tag h => ⟨fun inFlight => ?_, fun slot idle written => ?_⟩
  · exact exec_refuses h (st := .busy) nofun (if_pos (Option.isSome_iff_ne_none.mpr inFlight))
  · obtain rfl : slot = slotToWrite s.nv.statusA s.nv.statusB := SlotName.eq_of_b_iff (written.trans slotToWrite_eq_b.symm)
    refine ⟨s.nv.startPersist s.store.active, ?_, rfl, rfl, ?_, ?_, fun other differs => ⟨?_, ?_⟩⟩
    · refine exec_executes h { s with nv := s.nv.startPersist s.store.active }
        ⟨.accepted, byteOf (slotToWrite s.nv.statusA s.nv.statusB).code :: le32 s.store.active.generation⟩ (if_neg ?_)
        (by simp [answerResets])
      simp [State.asked, idle]
    · rw [NvStore.startPersist_status, if_pos rfl]
      rfl
    · exact s.nv.startPersist_pages_target s.store.active
    · rw [NvStore.startPersist_status, if_neg differs]
    · exact s.nv.startPersist_pages s.store.active other differs

/-- R131: what a page before the ninth leaves of the content, and of the mark. -/
theorem SlotPages.written_before {p : SlotPages} {page : Nat} {snapshot : Profile} (more : page < 9) :
    (p.written page snapshot).content = (if page = 8 then snapshot else p.content)
      ∧ (p.written page snapshot).completionMark = p.completionMark := by
  have notLast : ¬page = Config.pageCount := more.ne
  rw [SlotPages.written, if_neg notLast]
  by_cases eighth : page = 8
  · simp [eighth, Config.pageCount]
  · simp [eighth, Config.pageCount]

/-- Settles O46: a page before the ninth, the ninth, and a page that does not match. -/
theorem pageCompletionsWriteOrEnd : Obligations.PageCompletionsWriteOrEnd := by
  refine fun s => ⟨fun idle matched => ?_, fun o matched other op differs within => ?_⟩
  · show execPageWriteCompletion matched s = _
    rw [execPageWriteCompletion, idle]
  · intro u
    have done : exec (.pageWriteCompletion matched) s = .next (u.pageCompletes o matched).settle := by
      show execPageWriteCompletion matched s = _
      rw [execPageWriteCompletion, op]
    have status : ∀ n, u.nv.status n = s.nv.status n := fun n => by cases n <;> rfl
    have pages : ∀ n, u.nv.pages n = s.nv.pages n := fun n => by cases n <;> rfl
    have count : u.nv.pagesWritten = s.nv.pagesWritten := rfl
    clear_value u
    rw [done]
    cases matched with
    | false =>
      have ends : u.pageCompletes o false = u.endPersist (u.nv.failed o) o false := if_pos rfl
      refine ⟨u.nv.failed o, u.notices.post (.store false o.target o.snapshot.generation),
        congrArg (fun t : State => Host.Outcome.next t.settle) ends, ?_, ?_, nofun, nofun, fun _ => ⟨rfl, ?_, ?_, ?_, rfl⟩⟩
      · simp [differs, status]
      · simp [differs, pages]
      · rw [← count]
        unfold NvStore.failed
        cases o.target <;> rfl
      · simp [invalidSlot]
      · simp
    | true =>
      by_cases more : o.page < 9
      · have next : u.pageCompletes o true = u.withNv (u.nv.nextPage o) := (if_neg (by decide)).trans (if_pos more)
        obtain ⟨content, mark⟩ := SlotPages.written_before (p := u.nv.pages o.target) (snapshot := o.snapshot) more
        refine ⟨u.nv.nextPage o, u.notices, congrArg (fun t : State => Host.Outcome.next t.settle) next, ?_, ?_, fun _ _ =>
          ⟨rfl, ?_, ?_, ?_, ?_, rfl⟩, fun _ last => absurd more (by omega), nofun⟩
        · simp [status]
        · simp [differs, pages]
        · exact congrArg (· + 1) count
        · simp [status]
        · rw [NvStore.nextPage_pages, if_pos rfl, content, pages]
        · rw [NvStore.nextPage_pages, if_pos rfl, mark, pages]
      · have last : u.pageCompletes o true = u.endPersist (u.nv.done o) o true :=
          (if_neg (by decide)).trans (if_neg more)
        refine ⟨u.nv.done o, u.notices.post (.store true o.target o.snapshot.generation),
          congrArg (fun t : State => Host.Outcome.next t.settle) last, ?_, ?_, fun _ less => absurd less more, fun _ ninth =>
          ⟨rfl, congrArg (· + 1) count, ?_, ?_, rfl⟩, nofun⟩
        · simp [differs, status]
        · simp [differs, pages]
        · simp
        · simp [pages, SlotPages.written, Config.pageCount, ninth, Config.imageFormat]

end Sys2Proof.Machine

/-! The receiver (R167 to R172): bytes, frames, framing errors and breaks. -/

namespace Sys2Proof.Machine

/-! ## Bytes and frames (R168, R169) -/

theorem exec_byteReceived (s : State) (b : Byte) : exec (.byteReceived b) s = .next (s.byteReceived b) := rfl

theorem exec_frameReceived (s : State) (b : Byte) : exec (.frameReceived b) s = .next (s.lastByteReceived b) := rfl

theorem exec_framingError (s : State) : exec .framingError s = .next s.framingError := rfl

theorem exec_lineBreak (s : State) : exec .lineBreak s = .next s.lineBreak := rfl

section

variable {s : State}

theorem State.takesBytes_of (hears : s.startup.phase ≠ .resetHeld) (listens : s.link.phase ≠ .inBreak) : s.takesBytes = true := by
  simp [State.takesBytes, hears, listens]

theorem State.not_takesBytes (deaf : s.startup.phase = .resetHeld ∨ s.link.phase = .inBreak) : s.takesBytes = false := by
  rcases deaf with held | broken <;> simp [State.takesBytes, *]

/-- R168: a byte in HUNT. -/
theorem State.byteReceived_hunt (hears : s.takesBytes = true) (hunt : s.link.phase = .hunt) (b : Byte) :
    s.byteReceived b = s.rxdHigh.huntByte b := by
  rw [State.byteReceived, if_pos hears, hunt]

/-- R168, R169: a byte in COLLECT. -/
theorem State.byteReceived_collect (hears : s.takesBytes = true) (collect : s.link.phase = .collect) (b : Byte) :
    s.byteReceived b = s.rxdHigh.collectByte b := by
  rw [State.byteReceived, if_pos hears, collect]

/-- R168: the byte after the marker is a length byte. -/
theorem State.byteReceived_length (hears : s.takesBytes = true) (collect : s.link.phase = .collect)
    (first : s.link.collected = []) (b : Byte) : s.byteReceived b = s.rxdHigh.lengthByte b := by
  have notLast : s.rxdHigh.link.isLastByte = false := by simp [Link.isLastByte, State.rxdHigh, first]
  have none : s.rxdHigh.link.collected = [] := first
  rw [State.byteReceived_collect hears collect, State.collectByte, if_neg (Bool.not_eq_true _ ▸ notLast), if_pos none]

/-- R168: a byte that does not complete the frame joins it. -/
theorem State.byteReceived_joins (hears : s.takesBytes = true) (collect : s.link.phase = .collect) {len : Byte} {rest : List Byte}
    (begun : s.link.collected = len :: rest) (more : s.link.collected.length + 1 < len.toNat + 3) (b : Byte) :
    s.byteReceived b = s.rxdHigh.collecting (s.link.collected ++ [b]) := by
  have asked : s.rxdHigh.link.collected = len :: rest := begun
  have notLast : s.rxdHigh.link.isLastByte = false := by
    rw [begun] at more
    simp only [Link.isLastByte, asked, frameSize, decide_eq_false more.ne, Bool.and_false]
  rw [State.byteReceived_collect hears collect, State.collectByte, if_neg (Bool.not_eq_true _ ▸ notLast),
    if_neg (asked ▸ List.cons_ne_nil len rest)]
  rfl

/-- R169: the last check byte disposes of the frame, by either row (log 19). -/
theorem State.byteReceived_last (hears : s.takesBytes = true) (collect : s.link.phase = .collect) {len : Byte} {rest : List Byte}
    (begun : s.link.collected = len :: rest) (whole : s.link.collected.length + 1 = len.toNat + 3) (b : Byte) :
    s.byteReceived b = s.rxdHigh.hunt.frameDone (s.link.collected ++ [b])
      ∧ s.lastByteReceived b = s.rxdHigh.hunt.frameDone (s.link.collected ++ [b]) := by
  have last : s.link.isLastByte = true := by
    rw [begun] at whole
    simp [Link.isLastByte, begun, collect, frameSize, ← whole]
  have asked : s.rxdHigh.link.isLastByte = true := last
  constructor
  · rw [State.byteReceived_collect hears collect, State.collectByte, if_pos asked]
    rfl
  · rw [State.lastByteReceived, hears, last]
    rfl

theorem take_body (body : List Byte) : (body ++ crcBytes body).take ((body ++ crcBytes body).length - 2) = body
    ∧ (body ++ crcBytes body).drop ((body ++ crcBytes body).length - 2) = crcBytes body := by
  have size : (body ++ crcBytes body).length - 2 = body.length := by simp [crcBytes, le16]
  rw [size]
  exact ⟨List.take_left, List.drop_left⟩

/-- R169: a whole class 1 frame with a right check is handed on. -/
theorem State.frameDone_request (s : State) (code tag : Byte) (payload : List Byte) :
    s.frameDone (frameBody 1 code tag payload ++ crcBytes (frameBody 1 code tag payload)) = s.handOn code tag payload := by
  obtain ⟨body, check⟩ := take_body (frameBody 1 code tag payload)
  have checked : checkMatches (frameBody 1 code tag payload ++ crcBytes (frameBody 1 code tag payload)) = true := by
    rw [checkMatches, body, check]
    exact decide_eq_true rfl
  rw [State.frameDone, checked, body]
  rfl

/-- R169: a frame of another class or with a wrong check is discarded. -/
theorem State.frameDone_discards (s : State) {bytes rest : List Byte} {len cls : Byte}
    (body : bytes.take (bytes.length - 2) = len :: cls :: rest)
    (bad : cls ≠ 1 ∨ bytes.drop (bytes.length - 2) ≠ crcBytes (len :: cls :: rest)) : s.frameDone bytes = s := by
  unfold State.frameDone checkMatches
  rw [body]
  rcases bad with other | wrong
  · rcases rest with _ | ⟨code, _ | ⟨tag, payload⟩⟩ <;> simp only [other, if_false, ite_self]
  · rw [if_pos (by simp [wrong])]

end

/-- R166: a collected frame is the layout's bytes: all but its last check byte first. -/
theorem frame_splits {collected : List Byte} {last code tag : Byte} {payload : List Byte}
    (frame : 0xD3#8 :: (collected ++ [last]) = wireFrame 1 code tag payload) :
    collected ++ [last] = frameBody 1 code tag payload ++ crcBytes (frameBody 1 code tag payload) :=
  (List.cons.inj (frame.trans (frameBytes_eq 1 code tag payload).symm)).2

section

variable {s : State} {code tag last : Byte} {payload : List Byte}

/-- R169: the last byte of a whole frame does what its request's arrival does. -/
theorem State.lastByte_handsOn (hears : s.takesBytes = true) (collect : s.link.phase = .collect) (short : payload.length ≤ 117)
    (frame : s.link.collected ++ [last] = frameBody 1 code tag payload ++ crcBytes (frameBody 1 code tag payload)) :
    s.byteReceived last = s.receiveRequest code tag payload ∧ s.lastByteReceived last = s.receiveRequest code tag payload := by
  have size : s.link.collected.length + 1 = payload.length + 6 := by
    have := congrArg List.length frame
    simpa [frameBody, crcBytes, le16] using this
  obtain ⟨len, rest, begun⟩ : ∃ len rest, s.link.collected = len :: rest := by
    cases empty : s.link.collected with
    | nil => simp [empty] at size
    | cons len rest => exact ⟨len, rest, rfl⟩
  have length : len = byteOf (payload.length + 3) := by
    rw [begun] at frame
    exact (List.cons.inj frame).1
  have whole : s.link.collected.length + 1 = len.toNat + 3 := by
    rw [size, length, byteOf_toNat]
    omega
  obtain ⟨byte, lastByte⟩ := State.byteReceived_last hears collect begun whole last
  have handed : s.rxdHigh.hunt.frameDone (s.link.collected ++ [last]) = s.receiveRequest code tag payload := by
    rw [frame, State.frameDone_request, State.receiveRequest, if_pos hears]
  exact ⟨byte.trans handed, lastByte.trans handed⟩

end

/-- Settles O10: the frame's check and class. -/
theorem aWholeFrameIsHandedOnOrDiscarded : Obligations.AWholeFrameIsHandedOnOrDiscarded := by
  refine fun s last hears collect => ⟨fun code tag payload short frame => ?_, fun len cls rest begun whole long bad => ?_⟩
  · obtain ⟨byte, lastByte⟩ := State.lastByte_handsOn hears collect short (frame_splits frame)
    refine ⟨s.receiveRequest code tag payload, congrArg _ lastByte, congrArg _ byte, rfl, ?_⟩
    rintro r rfl
    exact exec_requestCommand r tag payload s
  · obtain ⟨byte, lastByte⟩ := State.byteReceived_last hears collect begun whole last
    have size : (len :: cls :: rest ++ [last]).length - 2 = len.toNat + 1 := by
      rw [begun] at whole
      simp only [List.length_append, List.length_cons, List.length_nil] at whole ⊢
      omega
    have body : (len :: cls :: rest ++ [last]).take (len.toNat + 1) = (len :: cls :: rest).take (len.toNat + 1) := by
      refine List.take_append_of_le_length ?_
      rw [begun] at whole
      omega
    obtain ⟨k, more⟩ : ∃ k, len.toNat = k + 1 := ⟨len.toNat - 1, by omega⟩
    have discarded : s.rxdHigh.hunt.frameDone (s.link.collected ++ [last]) = s.rxdHigh.hunt := by
      rw [begun]
      refine State.frameDone_discards (len := len) (cls := cls) (rest := rest.take k) _ ?_ ?_
      · rw [size, body, more]
        rfl
      · rw [size, crcBytes_eq]
        rwa [more] at bad ⊢
    exact ⟨s.rxdHigh.hunt, congrArg _ (lastByte.trans discarded), congrArg _ (byte.trans discarded), rfl⟩

/-! ## A frame byte by byte -/

theorem receiveBytes_cons (s : State) (b : Byte) (rest : List Byte) :
    receiveBytes s (b :: rest) = receiveBytes (s.byteReceived b) rest := rfl

theorem receiveBytes_append (s t : State) (first rest : List Byte) (received : receiveBytes s first = .next t) :
    receiveBytes s (first ++ rest) = receiveBytes t rest := by
  induction first generalizing s with
  | nil =>
    cases received
    rfl
  | cons b more ih => exact ih (s.byteReceived b) received

theorem State.collecting_again (s : State) (first next : List Byte) :
    (s.rxdHigh.collecting first).rxdHigh.collecting next = s.rxdHigh.collecting next := rfl

/-- R168: the bytes after a length byte, up to the last but one of the frame, are collected. -/
theorem State.receiveBytes_collecting {s : State} (hears : s.takesBytes = true) (len : Byte) (rest more : List Byte)
    (within : rest.length + more.length + 1 < len.toNat + 3) :
    receiveBytes (s.rxdHigh.collecting (len :: rest)) more = .next (s.rxdHigh.collecting (len :: rest ++ more)) := by
  induction more generalizing rest with
  | nil => rw [List.append_nil, receiveBytes]
  | cons b more ih =>
    rw [List.length_cons] at within
    have listens : (s.rxdHigh.collecting (len :: rest)).takesBytes = true := by
      have phase : s.startup.phase ≠ .resetHeld := by
        intro held
        simp [State.takesBytes, held] at hears
      exact State.takesBytes_of phase (nofun : RxPhase.collect ≠ .inBreak)
    have joins := State.byteReceived_joins listens rfl (len := len) (rest := rest) rfl
      (by show (len :: rest).length + 1 < _; rw [List.length_cons]; omega) b
    rw [receiveBytes_cons, joins]
    have step := ih (rest ++ [b]) (by rw [List.length_append, List.length_singleton]; omega)
    have bytes : len :: rest ++ b :: more = len :: (rest ++ [b]) ++ more := by simp
    rw [State.collecting_again, bytes]
    exact step

/-- Settles O11: marker, length byte, the bytes collected, and the last check byte. -/
theorem frameBytesCarryTheirRequest : Obligations.FrameBytesCarryTheirRequest := by
  intro s r tag payload hears hunt short
  refine ⟨s.receiveRequest r.code tag payload, ?_, exec_requestCommand r tag payload s⟩
  have phase : s.startup.phase ≠ .resetHeld := by
    intro held
    simp [State.takesBytes, held] at hears
  have listens : ∀ bytes, (s.rxdHigh.collecting bytes).takesBytes = true := fun bytes =>
    State.takesBytes_of phase (nofun : RxPhase.collect ≠ .inBreak)
  have length : (byteOf (payload.length + 3)).toNat = payload.length + 3 := by
    rw [byteOf_toNat]
    omega
  have taken : Config.minLength ≤ (byteOf (payload.length + 3)).toNat ∧ (byteOf (payload.length + 3)).toNat ≤ Config.maxLength := by
    rw [length]
    simp only [Config.minLength, Config.maxLength]
    omega
  obtain ⟨low, high, check⟩ : ∃ low high, crcBytes (frameBody 1 r.code tag payload) = [low, high] := ⟨_, _, rfl⟩
  have bytes : wireFrame 1 r.code tag payload = byteOf Config.marker :: byteOf (payload.length + 3)
      :: ((1 :: r.code :: tag :: payload ++ [low]) ++ [high]) := by
    rw [← frameBytes_eq, frameBytes, check]
    simp [frameBody]
  rw [bytes, receiveBytes_cons, State.byteReceived_hunt hears hunt, State.huntByte, if_pos rfl, receiveBytes_cons,
    State.byteReceived_length (listens []) rfl rfl, State.lengthByte, if_pos taken, State.collecting_again]
  have collected := State.receiveBytes_collecting hears (byteOf (payload.length + 3)) [] (1 :: r.code :: tag :: payload ++ [low])
    (by rw [length]; simp only [List.length_nil, List.length_append, List.length_cons]; omega)
  rw [receiveBytes_append _ _ _ _ collected, receiveBytes_cons]
  have frame : (s.rxdHigh.collecting ([byteOf (payload.length + 3)] ++ (1 :: r.code :: tag :: payload ++ [low]))).link.collected
      ++ [high] = frameBody 1 r.code tag payload ++ crcBytes (frameBody 1 r.code tag payload) := by
    rw [check]
    show [byteOf (payload.length + 3)] ++ (1 :: r.code :: tag :: payload ++ [low]) ++ [high] = _
    simp [frameBody]
  rw [(State.lastByte_handsOn (listens _) rfl short frame).1, receiveBytes, State.receiveRequest, State.receiveRequest,
    if_pos (listens _), if_pos hears]
  rfl

/-! ## Bytes that complete no frame, and framing errors -/

/-- Settles O12: by the receiver's phase and, in COLLECT, by what is collected. -/
theorem theReceiverHuntsAndCollects : Obligations.TheReceiverHuntsAndCollects := by
  refine fun s b => ⟨fun deaf => ?_, fun hears => ⟨fun hunt other => ?_, fun hunt marker => ?_, fun collect first least most => ?_,
    fun collect first marker => ?_, fun collect first outside other => ?_, fun len rest collect begun more => ?_,
    fun collect => ?_, fun hunt => ?_⟩⟩
  · have deaf := State.not_takesBytes deaf
    rw [exec_byteReceived, exec_frameReceived, exec_framingError]
    refine ⟨congrArg _ ?_, congrArg _ ?_, congrArg _ ?_, fun i code tag payload request => ?_⟩
    · rw [State.byteReceived, deaf]
      rfl
    · rw [State.lastByteReceived, deaf]
      rfl
    · rw [State.framingError, deaf]
      rfl
    · rw [exec_isRequest request, State.receiveRequest, deaf]
      rfl
  all_goals have listens : s.takesBytes = true := State.takesBytes_of hears (by simp [*])
  · refine congrArg _ ((State.byteReceived_hunt listens hunt b).trans ((if_neg other).trans ?_))
    rw [State.hunt, State.withLink, ← hunt]
    rfl
  · exact congrArg _ ((State.byteReceived_hunt listens hunt b).trans (if_pos marker))
  · exact congrArg _ ((State.byteReceived_length listens collect first b).trans ((if_pos ⟨least, most⟩).trans (by
      rw [State.collecting, State.withLink, ← collect]
      rfl)))
  · have notLength : ¬(Config.minLength ≤ b.toNat ∧ b.toNat ≤ Config.maxLength) := by
      subst marker
      decide
    refine congrArg _ ((State.byteReceived_length listens collect first b).trans ((if_neg notLength).trans ((if_pos marker).trans ?_)))
    rw [State.collecting, State.withLink, ← first, ← collect]
    rfl
  · have notLength : ¬(Config.minLength ≤ b.toNat ∧ b.toNat ≤ Config.maxLength) := by
      simp only [Config.minLength, Config.maxLength]
      omega
    refine congrArg _ ((State.byteReceived_length listens collect first b).trans ((if_neg notLength).trans ((if_neg other).trans ?_)))
    rw [State.hunt, State.withLink, ← first]
    rfl
  · refine congrArg _ ((State.byteReceived_joins listens collect begun more b).trans ?_)
    rw [State.collecting, State.withLink, ← collect]
    rfl
  · refine congrArg _ ((if_pos listens).trans ?_)
    rw [if_pos collect]
    rfl
  · refine congrArg _ ((if_pos listens).trans ?_)
    rw [if_neg (by simp [hunt])]
    rfl

/-! ## Breaks (R171, R172) -/

section

variable {s : State}

/-- R172: outside RESET_HELD and BREAK a break is taken when the line has been low for long enough. -/
theorem State.lineBreak_taken (hears : s.startup.phase ≠ .resetHeld) (listens : s.link.phase ≠ .inBreak) :
    s.lineBreak = (s.elapse s.link.toBreak).breakTaken := by
  rw [State.lineBreak, if_neg hears, if_neg listens]

/-- R172: a RESET_PART whose reply frame has begun is not dropped, nor another request. -/
theorem Link.dropsReset_eq_false {l : Link}
    (kept : (∃ r, l.tx = .reply r true) ∨ ∀ e rest r, l.queue = e :: rest → e.reply = some r → r.resets = false) :
    l.dropsReset = false := by
  have ready : (∀ e rest r, l.queue = e :: rest → e.reply = some r → r.resets = false) →
      (match l.readyReply with | some r => r.resets | none => false) = false := by
    intro quiet
    unfold Link.readyReply
    cases queue : l.queue with
    | nil => rfl
    | cons e rest =>
      cases reply : e.reply with
      | none => simp [reply]
      | some r => simpa [reply] using quiet e rest r queue reply
  unfold Link.dropsReset
  rcases kept with ⟨r, held⟩ | quiet
  · rw [held]
  · split
    · rfl
    all_goals exact ready quiet

theorem Link.dropsReset_eq_true {l : Link} (dropped : ∃ e rest r, l.queue = e :: rest ∧ e.reply = some r ∧ r.resets = true)
    (notBegun : ∀ r, l.tx ≠ .reply r true) : l.dropsReset = true := by
  obtain ⟨e, rest, r, queue, reply, resets⟩ := dropped
  unfold Link.dropsReset
  split
  · exact absurd ‹l.tx = _› (notBegun _)
  all_goals simp [Link.readyReply, queue, reply, resets]

end

/-- Settles O13: in RESET_HELD, in BREAK, and elsewhere by whether a RESET_PART is dropped. -/
theorem aBreakIsALinkReset : Obligations.ABreakIsALinkReset := by
  refine fun s => ⟨fun held => ?_, fun hears => ⟨fun listens kept => ?_, fun listens dropped notBegun => ?_, fun broken => ⟨?_, ?_⟩,
    fun listens => ?_⟩⟩
  · exact congrArg _ (if_pos held)
  · refine ⟨s.link.toBreak, by unfold Link.toBreak; cases s.link.lowLine <;> rfl, ?_⟩
    rw [exec_lineBreak, State.lineBreak_taken hears listens, State.breakTaken]
    dsimp only
    have quiet : (s.elapse s.link.toBreak).link.dropsReset = false := Link.dropsReset_eq_false kept
    rw [quiet, if_neg Bool.false_ne_true, State.linkReset, State.closeEdit_eq]
    obtain ⟨channels, targets, drive, scanner, seq, store, nv, log, ⟨phase, collected, gap, lowLine, queue, cache, tx, resetPending,
      rate, opened, level, failures, lockout⟩, notices, startup, pins, pending⟩ := s
    cases tx with
    | idle | reply _ _ | notice _ => rfl
  · rw [exec_lineBreak, State.lineBreak_taken hears listens, State.breakTaken]
    dsimp only
    have drops : (s.elapse s.link.toBreak).link.dropsReset = true := Link.dropsReset_eq_true dropped notBegun
    rw [drops, if_pos rfl, State.linkReset, State.closeEdit_eq]
    rfl
  · exact congrArg _ ((if_neg hears).trans (if_pos broken))
  · exact congrArg _ (if_pos broken)
  · exact congrArg _ (if_neg listens)

end Sys2Proof.Machine

/-! What the owner of a request does is blind to the receiver, the RXD level and the request queue (R174 step 7). So a request served
from the queue is served as one that arrives at rest (R173, R177). -/

namespace Sys2Proof.Machine

/-! ## The receiver's side of the state -/

/-- The receiver, the level of its line, and the request queue. -/
structure Receiving where
  phase : RxPhase
  collected : List Byte
  gap : Timer
  lowLine : Timer
  queue : List Entry
  rxdLow : Bool

/-- The state with its receiver's side replaced. -/
def State.withRx (s : State) (x : Receiving) : State :=
  { s with
    pins := { s.pins with rxdLow := x.rxdLow }
    link := { s.link with phase := x.phase, collected := x.collected, gap := x.gap, lowLine := x.lowLine, queue := x.queue } }

/-- The receiver's side of a state. -/
def State.rx (s : State) : Receiving :=
  ⟨s.link.phase, s.link.collected, s.link.gap, s.link.lowLine, s.link.queue, s.pins.rxdLow⟩

/-- A pair of a state and what goes with it, the receiver's side of the state replaced. -/
def pairWithRx {α : Type} (p : State × α) (x : Receiving) : State × α := (p.1.withRx x, p.2)

/-- Serving that neither reads nor writes the receiver's side. -/
def BlindServe {α : Type} (serve : State → State × α) : Prop := ∀ s x, serve (s.withRx x) = pairWithRx (serve s) x

section

variable {c : Prop} [Decidable c] {x : Receiving}

theorem withRx_ite {a b a' b' : State} (yes : a' = a.withRx x) (no : b' = b.withRx x) :
    (if c then a' else b') = (if c then a else b).withRx x := by
  subst yes no
  exact (apply_ite (State.withRx · x) c a b).symm

theorem pairWithRx_ite {α : Type} {a b a' b' : State × α} (yes : a' = pairWithRx a x) (no : b' = pairWithRx b x) :
    (if c then a' else b') = pairWithRx (if c then a else b) x := by
  subst yes no
  exact (apply_ite (pairWithRx · x) c a b).symm

theorem withRx_forEachChan {work : State → Chan → State} (each : ∀ s x n, work (s.withRx x) n = (work s n).withRx x) (s : State) :
    forEachChan work (s.withRx x) = (forEachChan work s).withRx x := by
  unfold forEachChan
  simp only [each]

end

/-! ## Channels -/

section

variable (s : State) (x : Receiving) (n : Chan)

theorem withRx_enterQualifying (cause : Cause) : (s.withRx x).enterQualifying n cause = (s.enterQualifying n cause).withRx x := by
  unfold State.enterQualifying
  exact withRx_ite rfl rfl

theorem withRx_reevaluate (cause : Cause) : (s.withRx x).reevaluate n cause = (s.reevaluate n cause).withRx x := by
  unfold State.reevaluate
  exact withRx_ite (withRx_ite rfl rfl) rfl

theorem withRx_startWanted (cause : Cause) : (s.withRx x).startWanted n cause = (s.startWanted n cause).withRx x := by
  unfold State.startWanted
  exact withRx_ite rfl (withRx_enterQualifying s x n cause)

theorem withRx_holdBecomesEffective : (s.withRx x).holdBecomesEffective n = (s.holdBecomesEffective n).withRx x := by
  have same : ((s.withRx x).channels.get n).state = (s.channels.get n).state := rfl
  unfold State.holdBecomesEffective
  rw [same]
  cases (s.channels.get n).state with
  | locked => exact withRx_ite rfl rfl
  | disabled | qualifying | ramping | active | tripped | windingDown | held => rfl

theorem withRx_holdChanged (before : Bool) : (s.withRx x).holdChanged n before = (s.holdChanged n before).withRx x := by
  unfold State.holdChanged State.holdCeases
  exact withRx_ite (withRx_holdBecomesEffective s x n)
    (withRx_ite (withRx_ite (withRx_enterQualifying s x n .release) rfl) rfl)

theorem withRx_takeTrip (kind : TripKind) : (s.withRx x).takeTrip n kind = (s.takeTrip n kind).withRx x := by
  unfold State.takeTrip
  refine withRx_ite ?_ rfl
  have same : (s.withRx x).tripAction n kind = s.tripAction n kind := rfl
  dsimp only
  rw [same]
  cases (s.tripAction n kind).leadsTo with
  | none => rfl
  | some st => rfl

theorem withRx_supplyLost : (s.withRx x).supplyLost n = (s.supplyLost n).withRx x := by
  have same : ((s.withRx x).channels.get n).state = (s.channels.get n).state := rfl
  unfold State.supplyLost
  rw [same]
  cases (s.channels.get n).state with
  | ramping | active => exact withRx_enterQualifying s x n .supply
  | disabled | qualifying | windingDown | tripped | locked | held => rfl

end

/-! ## The profile -/

section

variable (s : State) (x : Receiving)

theorem withRx_closeEdit (cause : EditCause) : (s.withRx x).closeEdit cause = (s.closeEdit cause).withRx x := by
  unfold State.closeEdit
  exact withRx_ite rfl rfl

theorem withRx_supplyReplaced (was : Bool) : (s.withRx x).supplyReplaced was = (s.supplyReplaced was).withRx x := by
  unfold State.supplyReplaced
  exact withRx_ite rfl (withRx_ite rfl (withRx_forEachChan withRx_supplyLost s.postSupply))

theorem withRx_overTempReplaced (was : Bool) : (s.withRx x).overTempReplaced was = (s.overTempReplaced was).withRx x := by
  unfold State.overTempReplaced
  exact withRx_ite (withRx_forEachChan (fun s x n => withRx_takeTrip s x n .ot) s) rfl

theorem withRx_install (p : Profile) : (s.withRx x).install p = (s.install p).withRx x := by
  have taken : ((s.withRx x).withStore { (s.withRx x).store with active := p }).takeProfile (s.withRx x).store.active
      = ((s.withStore { s.store with active := p }).takeProfile s.store.active).withRx x := rfl
  have supply : (s.withRx x).seq = s.seq := rfl
  unfold State.install
  dsimp only
  rw [taken, supply, withRx_supplyReplaced, withRx_overTempReplaced]
  exact withRx_forEachChan (fun s x n => withRx_reevaluate s x n .commit) _

end

/-! ## The owners -/

/-- R13: work on the named channels in turn. -/
theorem withRx_overMask {work : State → Chan → State × ChanResult}
    (each : ∀ s x n, work (s.withRx x) n = pairWithRx (work s n) x) (mask : Byte) (s : State) (x : Receiving) :
    overMask mask work (s.withRx x) = pairWithRx (overMask mask work s) x := by
  have one : ∀ (p : State × List ChanResult) (n : Chan),
      nameChan mask work (pairWithRx p x) n = pairWithRx (nameChan mask work p n) x := fun p n => by
    have done := each p.1 x n
    have same : (pairWithRx p x).1 = p.1.withRx x := rfl
    unfold nameChan
    refine pairWithRx_ite ?_ rfl
    rw [same, done]
    rfl
  have all : ∀ (chans : List Chan) (p : State × List ChanResult),
      chans.foldl (nameChan mask work) (pairWithRx p x) = pairWithRx (chans.foldl (nameChan mask work) p) x := by
    intro chans
    induction chans with
    | nil => exact fun _ => rfl
    | cons n rest ih =>
      intro p
      rw [List.foldl_cons, one, ih, List.foldl_cons]
  exact all allChans (s, [])

section

variable (s : State) (x : Receiving) (n : Chan)

theorem withRx_enableChan : enableChan (s.withRx x) n = pairWithRx (enableChan s n) x := by
  have same : ((s.withRx x).channels.get n).state = (s.channels.get n).state := rfl
  unfold enableChan
  rw [same]
  cases (s.channels.get n).state with
  | disabled => exact congrArg (·, ChanResult.done) (withRx_startWanted s x n .request)
  | qualifying | ramping | active | windingDown | tripped | locked | held => rfl

theorem withRx_disableChan : disableChan (s.withRx x) n = pairWithRx (disableChan s n) x := by
  have same : ((s.withRx x).channels.get n).state = (s.channels.get n).state := rfl
  unfold disableChan
  rw [same]
  cases (s.channels.get n).state with
  | disabled | qualifying | ramping | active | windingDown | tripped | locked | held => rfl

theorem withRx_clearChan : clearChan (s.withRx x) n = pairWithRx (clearChan s n) x := by
  have same : ((s.withRx x).channels.get n).state = (s.channels.get n).state := rfl
  unfold clearChan
  rw [same]
  cases (s.channels.get n).state with
  | locked => exact congrArg (·, ChanResult.done) (withRx_startWanted (s.setRetryCount n 0) x n .request)
  | tripped => exact congrArg (·, ChanResult.done) (withRx_enterQualifying s x n .request)
  | disabled | qualifying | ramping | active | windingDown | held => rfl

theorem withRx_softHoldChan (on : Bool) : softHoldChan on (s.withRx x) n = pairWithRx (softHoldChan on s n) x := by
  unfold softHoldChan
  exact pairWithRx_ite rfl (congrArg (·, ChanResult.done) (withRx_holdChanged (s.setSoftHold n on) x n (s.holdEffective n)))

end

theorem blind_serveMask {work : State → Chan → State × ChanResult}
    (each : ∀ s x n, work (s.withRx x) n = pairWithRx (work s n) x) (payload : List Byte) : BlindServe (serveMask payload work) := by
  intro s x
  rcases payload with _ | ⟨m, _ | ⟨_, _⟩⟩
  · rfl
  · unfold serveMask
    dsimp only
    cases chanMaskIn m with
    | none => rfl
    | some mask => simp only [withRx_overMask each, pairWithRx]
  · rfl

theorem blind_serveSoftHold (payload : List Byte) : BlindServe (serveSoftHold payload) := by
  intro s x
  rcases payload with _ | ⟨m, _ | ⟨setting, _ | ⟨_, _⟩⟩⟩
  · rfl
  · rfl
  · unfold serveSoftHold
    dsimp only
    cases chanMaskIn m with
    | none => rfl
    | some mask =>
      cases flagIn setting with
      | none => rfl
      | some on => simp only [withRx_overMask (fun s x n => withRx_softHoldChan s x n on), pairWithRx]
  · rfl

theorem blind_servePut (change : Profile → Option Profile) : BlindServe (servePut change) := by
  intro s x
  have same : (s.withRx x).store = s.store := rfl
  unfold servePut
  rw [same]
  cases s.store.staged with
  | none => rfl
  | some p =>
    dsimp only
    cases change p with
    | none => rfl
    | some q => rfl

theorem blind_serveHello : BlindServe serveHello := by
  have left : ∀ (s : State) x, (s.withRx x).hello = s.hello.withRx x := fun s x => by
    rw [State.hello_eq, State.hello_eq]
    rfl
  intro s x
  unfold serveHello
  rw [left]
  rfl

theorem blind_serveSetLevel (payload : List Byte) : BlindServe (serveSetLevel payload) := by
  have judged : ∀ (s : State) x code, (s.withRx x).judgeCode code = pairWithRx (s.judgeCode code) x := fun s x code => by
    have same : (s.withRx x).link.lockout = s.link.lockout := rfl
    unfold State.judgeCode
    rw [same]
    cases s.link.lockout with
    | running _ => rfl
    | stopped => exact pairWithRx_ite rfl rfl
  have granted : ∀ (s : State) x l, (s.withRx x).grantLevel l = (s.grantLevel l).withRx x := fun s x l => by
    rw [State.grantLevel_eq, State.grantLevel_eq]
    rfl
  intro s x
  unfold serveSetLevel
  split
  · split
    · rfl
    · exact pairWithRx_ite (congrArg (·, _) (granted s x _)) (judged s x _)
  · rfl

theorem blind_serveCommit (payload : List Byte) : BlindServe (serveCommit payload) := by
  have answered : ∀ (s : State) x staged persist,
      (s.withRx x).commitAnswer staged persist = pairWithRx (s.commitAnswer staged persist) x := fun s x staged persist => by
    have done : (s.withRx x).commit staged = (s.commit staged).withRx x :=
      withRx_install s.dropEdit x { staged with generation := s.store.active.generation + 1 }
    unfold State.commitAnswer
    dsimp only
    rw [done]
    generalize s.commit staged = t
    exact pairWithRx_ite rfl rfl
  intro s x
  have store : (s.withRx x).store = s.store := rfl
  have running : (s.withRx x).isRunning = s.isRunning := rfl
  have nv : (s.withRx x).nv = s.nv := rfl
  unfold serveCommit
  rw [store, running, nv]
  split
  · split
    · rfl
    · rfl
    · split_ifs
      · rfl
      · rfl
      · split
        · rfl
        · exact answered s x _ _
  · rfl

theorem blind_serveRevert : BlindServe serveRevert := by
  intro s x
  have nv : (s.withRx x).nv = s.nv := rfl
  unfold serveRevert
  rw [nv]
  refine pairWithRx_ite rfl (pairWithRx_ite rfl (pairWithRx_ite rfl ?_))
  cases newestValid s.nv.statusA s.nv.statusB with
  | none => rfl
  | some slot =>
    dsimp only
    rw [withRx_install s x (s.nv.image slot)]
    generalize s.install (s.nv.image slot) = t
    rfl

theorem blind_serveSetNoticeMask (payload : List Byte) : BlindServe (serveSetNoticeMask payload) := by
  intro s x
  unfold serveSetNoticeMask
  split
  · exact pairWithRx_ite rfl rfl
  · rfl

theorem blind_serveAckNotices (payload : List Byte) : BlindServe (serveAckNotices payload) := by
  intro s x
  unfold serveAckNotices
  split
  · exact pairWithRx_ite rfl rfl
  · rfl

theorem blind_serveChannelStatus (payload : List Byte) : BlindServe (serveChannelStatus payload) := by
  intro s x
  unfold serveChannelStatus
  split
  · split <;> rfl
  · rfl

theorem blind_serveEvalCurve (payload : List Byte) : BlindServe (serveEvalCurve payload) := by
  intro s x
  unfold serveEvalCurve
  split <;> rfl

theorem blind_serveReadPoints (payload : List Byte) : BlindServe (serveReadPoints payload) := by
  intro s x
  unfold serveReadPoints
  split
  · exact pairWithRx_ite rfl rfl
  · rfl

theorem blind_serveGetProfile (payload : List Byte) : BlindServe (serveGetProfile payload) := by
  intro s x
  unfold serveGetProfile
  split
  · split <;> rfl
  · rfl

theorem blind_serveReadLog (payload : List Byte) : BlindServe (serveReadLog payload) := by
  intro s x
  unfold serveReadLog
  split
  · split <;> rfl
  · rfl

/-- R174 step 7: no owner reads or writes the receiver's side. -/
theorem blind_ownerServes (r : RequestName) (payload : List Byte) : BlindServe (ownerServes r payload) := by
  intro s x
  cases r with
  | hello => exact blind_serveHello s x
  | bye => exact congrArg (fun t : State => (t.unsendNotices.setSession false .observe, _)) (withRx_closeEdit s x .bye)
  | setLevel => exact blind_serveSetLevel payload s x
  | setNoticeMask => exact blind_serveSetNoticeMask payload s x
  | ackNotices => exact blind_serveAckNotices payload s x
  | resetPart | openEdit | abandonEdit | persist => exact pairWithRx_ite rfl rfl
  | enable => exact blind_serveMask withRx_enableChan payload s x
  | disable => exact blind_serveMask withRx_disableChan payload s x
  | clear => exact blind_serveMask withRx_clearChan payload s x
  | softHold => exact blind_serveSoftHold payload s x
  | channelStatus => exact blind_serveChannelStatus payload s x
  | evalCurve => exact blind_serveEvalCurve payload s x
  | readPoints => exact blind_serveReadPoints payload s x
  | putCurve | putChannel | putTrip | putScanList | putWindow | putSupply | putAccessCode | putLabel =>
    exact blind_servePut _ s x
  | getProfile => exact blind_serveGetProfile payload s x
  | commit => exact blind_serveCommit payload s x
  | revert => exact blind_serveRevert s x
  | readLog => exact blind_serveReadLog payload s x
  | identify | readScan | storeStatus | clearLog => rfl

/-- R174: nor does the judgement of a request. -/
theorem blind_serveExecute (code tag : Byte) (payload : List Byte) : BlindServe (serveExecute code tag payload) := by
  have known : ∀ r, BlindServe (serveKnown r payload) := fun r s x => by
    unfold serveKnown
    exact pairWithRx_ite rfl (pairWithRx_ite rfl (pairWithRx_ite rfl (blind_ownerServes r payload s x)))
  have judged : BlindServe (serveRunning code payload) := fun s x => by
    unfold serveRunning
    cases requestOfCode code with
    | none => rfl
    | some r => exact known r s x
  intro s x
  have cached : (s.withRx x).link.replayFor code tag = s.link.replayFor code tag := rfl
  unfold serveExecute
  rw [cached]
  cases s.link.replayFor code tag with
  | some c => rfl
  | none =>
    dsimp only
    rw [judged s x]
    exact pairWithRx_ite rfl rfl

/-! ## A request served from the queue -/

/-- R173: no owner changes what it does not see. -/
theorem serveExecute_rx (code tag : Byte) (payload : List Byte) (s : State) :
    (serveExecute code tag payload s).1 = (serveExecute code tag payload s).1.withRx s.rx :=
  congrArg Prod.fst (blind_serveExecute code tag payload s s.rx)

/-- R177: an idle transmitter begins the reply of the head entry, whatever the receiver's side and the entries behind it are. -/
theorem State.settle_withRx (w : State) (x y : Receiving) {e : Entry} {r : Reply} (ready : e.reply = some r) (more : List Entry) :
    ((w.withRx y).withQueue (e :: more)).settle = (((w.withRx x).withQueue [e]).settle).withRx
      ⟨y.phase, y.collected, y.gap, y.lowLine, (((w.withRx x).withQueue [e]).settle).link.queue ++ more, y.rxdLow⟩ := by
  have line : ∀ z q, ((w.withRx z).withQueue (e :: q)).settle
      = if w.link.tx = .idle then ((w.withRx z).withQueue (e :: q)).beginReply r else (w.withRx z).withQueue (e :: q) := fun z q => by
    have choice : ((w.withRx z).withQueue (e :: q)).choose = ((w.withRx z).withQueue (e :: q)).beginReply r := by
      have head : ((w.withRx z).withQueue (e :: q)).link.readyReply = some r := ready
      rw [State.choose, head]
    rw [State.settle, choice]
    rfl
  rw [line, line]
  split_ifs <;> rfl

/-- Settles O7: both serve the entry by the same judgement, which is blind to all they differ in. -/
theorem aQueuedRequestIsServedAsOnArrival : Obligations.AQueuedRequestIsServedAsOnArrival := by
  intro s r done e more i hears line quiet queue execute fresh request
  obtain ⟨code, tag, payload, mark, reply⟩ := e
  obtain rfl : mark = .execute := execute
  obtain rfl : reply = none := fresh
  have rests : s.atRest.ServesAtOnce := ⟨State.takesBytes_of hears (nofun : RxPhase.hunt ≠ .inBreak), rfl⟩
  have ends : exec .replyFrameEnd s = .next (s.replyEnds true) := exec_replyFrameEnd line quiet
  obtain ⟨u, waits⟩ : ∃ u : State, s.txIdle.withQueue (newEntry code tag payload .execute :: more) = u := ⟨_, rfl⟩
  have served : s.replyEnds true = ((serveExecute code tag payload u).1.withQueue
      ({ newEntry code tag payload .execute with reply := some (serveExecute code tag payload u).2 } :: more)).settle := by
    have next : s.txIdle.withQueue s.link.queue.tail = u := by rw [queue, ← waits]; rfl
    have head : u.link.queue = newEntry code tag payload .execute :: more := by rw [← waits]; rfl
    rw [State.replyEnds, if_pos rfl, next, State.serveHead, head]
    rfl
  have arrives : s.atRest.inService code tag payload = u.withRx ⟨.hunt, [], .stopped, .stopped, [newEntry code tag payload .execute],
      false⟩ := by rw [← waits]; rfl
  refine ⟨s.atRest.receiveRequest code tag payload, exec_isRequest request s.atRest, ?_⟩
  rw [ends, served, State.receiveRequest_atOnce rests, arrives, blind_serveExecute, serveExecute_rx code tag payload u]
  generalize serveExecute code tag payload u = p
  refine congrArg _ ((State.settle_withRx p.1 ⟨.hunt, [], .stopped, .stopped, [newEntry code tag payload .execute], false⟩ u.rx
    (e := { newEntry code tag payload .execute with reply := some p.2 }) rfl more).trans ?_)
  rw [← waits]
  rfl

end Sys2Proof.Machine

/-! Requests that carry or return parts of a profile: the round trip of PUT and GET_PROFILE, GET_PROFILE, and the refusals of COMMIT
(R109 to R120). -/

namespace Sys2Proof.Machine

/-! ## Fields read back from their bytes (R178) -/

theorem natIn_byte {lo hi n : Nat} (least : lo ≤ n) (most : n ≤ hi) (byte : hi ≤ 255) : natIn lo hi (byteOf n).toNat = some n := by
  rw [byteOf_toNat, Nat.mod_eq_of_lt (by omega)]
  exact if_pos ⟨least, most⟩

theorem natIn_word {hi n : Nat} (most : n ≤ hi) (word : hi ≤ 65535) :
    natIn 0 hi (u16 (byteOf n) (byteOf (n / 256))) = some n := by
  rw [u16_byteOf (by omega)]
  exact if_pos ⟨n.zero_le, most⟩

theorem intIn_word {lo hi i : Int} (least : lo ≤ i) (most : i ≤ hi) (low : -32768 ≤ lo) (high : hi ≤ 32767) :
    intIn lo hi (i16 (byteOf (i % 65536).toNat) (byteOf ((i % 65536).toNat / 256))) = some i := by
  rw [i16_byteOf (by omega) (by omega)]
  exact intIn_eq_some least most

theorem chanIn_byteOf (n : Chan) : chanIn (byteOf n.val) = some n :=
  chanIn_eq_some (by rw [byteOf_toNat]; exact Nat.mod_eq_of_lt (by omega))

theorem otPolicyIn_code {p : Policy} (h : p ≠ .report) : otPolicyIn (byteOf p.code) = some p := by
  cases p with
  | latch | retry => rfl
  | report => exact absurd rfl h

theorem tripPolicyIn_code {p : Policy} {k : FastKind} (h : p = .report → k = .lf) :
    tripPolicyIn k (byteOf p.code) = some p := by
  cases p with
  | latch | retry => rfl
  | report =>
    rw [h rfl]
    rfl

theorem pointIn_byteOf (q : Point) : pointIn (byteOf q.index) = some q := by
  have all : ∀ q ∈ allPoints, pointIn (byteOf q.index) = some q := by decide
  exact all q (mem_allPoints q)

theorem wordIn_le32 (w : W32) : wordIn (le32 w) = some w := by
  refine congrArg some ?_
  unfold u32
  ext i hi
  simp only [BitVec.getElem_append, BitVec.getElem_extractLsb']
  rw [← BitVec.getLsbD_eq_getElem]
  split_ifs <;> exact congrArg w.getLsbD (by omega)

/-! ## Sections of a profile (R110 to R116) -/

theorem breakpointsIn_bytes {curve : List Breakpoint} (inRange : ∀ b ∈ curve, b.inRange = true) :
    breakpointsIn (breakpointBytes curve) = some curve := by
  induction curve with
  | nil => rfl
  | cons b rest ih =>
    obtain ⟨first, later⟩ := List.forall_mem_cons.mp inRange
    obtain ⟨low, high, code⟩ := of_decide_eq_true first
    have head : breakpointBytes (b :: rest) = le16i b.temp ++ le16 b.code ++ breakpointBytes rest := rfl
    rw [head]
    simp only [le16i, le16, List.cons_append, List.nil_append, breakpointsIn, ih later,
      i16_byteOf (show -32768 ≤ b.temp by omega) (by omega), u16_byteOf (show b.code < 65536 by omega), Option.map_some]

theorem curveOk_parts {curve : List Breakpoint} (h : curveOk curve = true) :
    2 ≤ curve.length ∧ curve.length ≤ 16 ∧ ∀ b ∈ curve, b.inRange = true := by
  simp only [curveOk, Bool.and_eq_true, decide_eq_true_eq, List.all_eq_true] at h
  obtain ⟨⟨⟨least, most⟩, each⟩, _⟩ := h
  exact ⟨least, most, each⟩

theorem putCurveIn_bytes (n : Chan) {curve : List Breakpoint} (h : curveOk curve = true) :
    putCurveIn (byteOf n.val :: byteOf curve.length :: breakpointBytes curve) = some (n, curve) := by
  obtain ⟨_, most, each⟩ := curveOk_parts h
  have count : curve.length = (byteOf curve.length).toNat := by
    rw [byteOf_toNat]
    omega
  simp only [putCurveIn, chanIn_byteOf, breakpointsIn_bytes each, Option.bind_eq_bind, Option.bind_some]
  exact if_pos ⟨count, h⟩

/-- R111: a channel profile with the curve and the trip settings of another. -/
def ChannelProfile.scalarsOver (c was : ChannelProfile) : ChannelProfile :=
  { c with curve := was.curve, oc := was.oc, hr := was.hr, lf := was.lf }

theorem putChannelIn_bytes (n : Chan) {c : ChannelProfile} (h : c.ScalarsInRange) (was : Chan → ChannelProfile) :
    putChannelIn (byteOf n.val :: c.bytes) was = some (n, c.scalarsOver (was n)) := by
  obtain ⟨trims, floor, ceiling, park, slew, slew', blanking, blanking', delay, delay', budget, stable, stable', heat⟩ := h
  have trim : ∀ band, intIn (-512) 511 (i16 (byteOf (c.trim.get band % 65536).toNat)
      (byteOf ((c.trim.get band % 65536).toNat / 256))) = some (c.trim.get band) :=
    fun band => intIn_word (trims band).1 (trims band).2 (by decide) (by decide)
  have trim0 := trim 0
  have trim1 := trim 1
  have trim2 := trim 2
  have trim3 := trim 3
  simp only [Quad.get] at trim0 trim1 trim2 trim3
  simp only [putChannelIn, ChannelProfile.bytes, le16i, le16, List.cons_append, List.nil_append, chanIn_byteOf, flagIn_boolByte,
    trim0, trim1, trim2, trim3, natIn_word floor, natIn_word ceiling, natIn_word park, natIn_byte slew slew', natIn_byte blanking blanking',
    natIn_byte delay delay', natIn_byte (Nat.zero_le _) budget, natIn_byte stable stable', otPolicyIn_code heat,
    Nat.reduceLeDiff, Option.bind_eq_bind, Option.bind_some]
  rfl

theorem putTripIn_bytes (n : Chan) {t : TripSetting} {k : FastKind} (h : t.inRange k = true) {code : Byte}
    (named : fastKindIn code = some k) : putTripIn (byteOf n.val :: code :: t.bytes) = some (n, k, t) := by
  obtain ⟨threshold, least, most, policy⟩ := of_decide_eq_true h
  simp only [putTripIn, TripSetting.bytes, le16, List.cons_append, List.nil_append, chanIn_byteOf, named, natIn_word threshold,
    natIn_byte least most, tripPolicyIn_code policy, Nat.reduceLeDiff, Option.bind_eq_bind, Option.bind_some]

theorem putScanListIn_bytes {l : List PointNumber} (least : 1 ≤ l.length) (most : l.length ≤ 16) :
    putScanListIn (byteOf l.length :: l.map fun x => byteOf x.val) = some l := by
  have count : (byteOf l.length).toNat = l.length := by
    rw [byteOf_toNat]
    omega
  have entry : ∀ x : PointNumber, pointNumberIn (byteOf x.val) = some x := fun x => by
    have value : (byteOf x.val).toNat = x.val := by
      rw [byteOf_toNat]
      omega
    rw [pointNumberIn, dif_pos (by omega)]
    exact congrArg some (Fin.ext value)
  have each : (l.map fun x => byteOf x.val).mapM pointNumberIn = some l := by
    clear least most count
    induction l with
    | nil => rfl
    | cons x rest ih => simp [entry, ih]
  rw [putScanListIn, count, if_pos ⟨least, most, by simp⟩, each]

theorem putWindowIn_bytes (q : Point) {w : Window} (h : w.inRange q = true) :
    putWindowIn (byteOf q.index :: w.bytes) = some (q, w) := by
  obtain ⟨highLeast, highMost, lowLeast, lowMost, hyst, hyst', depth⟩ := of_decide_eq_true h
  have bounds : -32768 ≤ q.least ∧ q.greatest ≤ 32767 ∧ q.greatest - q.least ≤ 32767 ∧ (q ≠ .temp → 0 ≤ q.least) := by
    cases q <;> simp [Point.least, Point.greatest]
  obtain ⟨low, high, wide, unsigned⟩ := bounds
  have value : ∀ v : Int, -32768 ≤ v → v ≤ 32767 → (q ≠ .temp → 0 ≤ v) →
      (if q = .temp then i16 (byteOf (v % 65536).toNat) (byteOf ((v % 65536).toNat / 256))
        else (u16 (byteOf (v % 65536).toNat) (byteOf ((v % 65536).toNat / 256)) : Int)) = v := fun v least most positive => by
    split_ifs with temp
    · exact i16_byteOf least most
    · have := positive temp
      rw [u16_byteOf (by omega)]
      omega
  simp only [putWindowIn, Window.bytes, le16i, le16, List.cons_append, List.nil_append, pointIn_byteOf, Option.bind_eq_bind,
    Option.bind_some]
  rw [value w.high (by omega) (by omega) (fun other => (unsigned other).trans highLeast),
    value w.low (by omega) (by omega) (fun other => (unsigned other).trans lowLeast), value w.hyst (by omega) (by omega) (fun _ => hyst),
    intIn_eq_some highLeast highMost, intIn_eq_some lowLeast lowMost, intIn_eq_some hyst hyst',
    natIn_byte (Nat.zero_le _) depth (by decide)]
  rfl

theorem putSupplyIn_bytes {x : SupplySettings} (h : x.inRange = true) : putSupplyIn x.bytes = some x := by
  obtain ⟨e1, e2, e3, hyst, least, most, limit, limit', thermal, thermal'⟩ := of_decide_eq_true h
  have byte : (byteOf x.hyst).toNat = x.hyst := by
    rw [byteOf_toNat]
    omega
  simp only [putSupplyIn, SupplySettings.bytes, le16i, le16, List.cons_append, List.nil_append, natIn_word e1, natIn_word e2,
    natIn_word e3, natIn_word least, natIn_word most, intIn_word limit limit', natIn_byte thermal thermal', Nat.reduceLeDiff,
    Int.reduceNeg, Int.reduceLE, Option.bind_eq_bind, Option.bind_some, byte]

/-- Settles O41: each section's bytes are read back field by field. -/
theorem putTakesBackWhatGetProfileReturns : Obligations.PutTakesBackWhatGetProfileReturns := by
  intro p q n inRange
  obtain ⟨channels, list, supply, windows⟩ := p.inRange_iff.mp inRange
  obtain ⟨curve, scalars, settings⟩ := (p.channels.get n).inRange_iff.mp (channels n)
  refine ⟨?_, ?_, ?_, ?_, ?_, ?_, fun pt => ?_, ?_, ?_, ?_⟩
  · exact congrArg (Option.map _) (putCurveIn_bytes n curve)
  · exact congrArg (Option.map _) (putChannelIn_bytes n scalars q.channels.get)
  · exact congrArg (Option.map _) (putTripIn_bytes n (settings .oc) rfl)
  · exact congrArg (Option.map _) (putTripIn_bytes n (settings .hr) rfl)
  · exact congrArg (Option.map _) (putTripIn_bytes n (settings .lf) rfl)
  · exact congrArg (Option.map _) (putScanListIn_bytes list.1 list.2)
  · exact congrArg (Option.map _) (putWindowIn_bytes pt (windows pt))
  · exact congrArg (Option.map _) (putSupplyIn_bytes supply)
  · exact congrArg (Option.map fun w => ({ q with accessCode := w } : Profile)) (wordIn_le32 p.accessCode)
  · exact congrArg (Option.map fun w => ({ q with label := w } : Profile)) (wordIn_le32 p.label)

/-! ## GET_PROFILE (R117) -/

theorem pointIn_eq_some {b : Byte} {q : Point} (h : q.index = b.toNat) : pointIn b = some q := by
  have byte : byteOf q.index = b := by rw [h, byteOf_toNat_self]
  rw [← byte, pointIn_byteOf]

/-- R117: a section code above 6, or an index outside the section. -/
theorem sectionFields_eq_none {code index : Byte}
    (outside : 6 < code.toNat ∨ (code.toNat ≤ 2 ∧ 3 < index.toNat) ∨ (code.toNat = 4 ∧ 13 < index.toNat)
      ∨ (code.toNat ∈ [3, 5, 6] ∧ index.toNat ≠ 0)) : sectionFields code index = none := by
  have notFirst : index.toNat ≠ 0 → index ≠ 0 := fun h same => h (congrArg BitVec.toNat same)
  have noPoint : 13 < index.toNat → pointIn index = none := fun above =>
    List.getElem?_eq_none (show allPoints.length ≤ index.toNat from above)
  unfold sectionFields
  split
  case h_1 | h_2 | h_3 => rw [chanIn_eq_none (by simp_all), Option.map_none]
  case h_4 | h_6 | h_7 => exact if_neg (notFirst (by simp_all))
  case h_5 => rw [noPoint (by simp_all), Option.map_none]
  case h_8 => rfl

/-- Settles O42: the section and the copy in their ranges, then the copy. -/
theorem getProfileReturnsASection : Obligations.GetProfileReturnsASection := by
  intro s tag code index copy h answered
  refine ⟨fun outside => ?_, fun fields named => ?_⟩
  · refine exec_outOfRange h fun u => ?_
    by_cases copies : copy.toNat ≤ 1
    · have none : sectionFields code index = none := by
        refine sectionFields_eq_none ?_
        rcases outside with high | bad | rest
        exacts [.inl high, absurd copies (Nat.not_le.mpr bad), .inr rest]
      simp only [ownerServes, serveGetProfile, none]
    · simp only [ownerServes, serveGetProfile, flagIn_eq_none copies]
      cases sectionFields code index <;> rfl
  · have chosen : sectionFields code index = some fields := by
      rcases named with ⟨n, channel, ⟨rfl, rfl⟩ | ⟨rfl, rfl⟩ | ⟨rfl, rfl⟩⟩ | ⟨rfl, rfl, rfl⟩ | ⟨q, point, rfl, rfl⟩ | ⟨rfl, rfl, rfl⟩
        | ⟨rfl, rfl, rfl⟩
      case inl.inl | inl.inr.inl | inl.inr.inr =>
        exact congrArg (Option.map _) (chanIn_eq_some channel.symm)
      case inr.inr.inl => exact congrArg (Option.map _) (pointIn_eq_some point)
      all_goals rfl
    have owner : ∀ staged, flagIn copy = some staged → ∀ a, s.withCopy staged (fun p => .okWith (code :: index :: copy :: fields p)) = a →
        ownerServes .getProfile [code, index, copy] (s.asked .getProfile tag [code, index, copy])
          = (s.asked .getProfile tag [code, index, copy], a) := fun staged flag a copied => by
      rw [← copied]
      simp only [ownerServes, serveGetProfile, chosen, flag]
      rfl
    refine ⟨fun active => ?_, fun staged level => ?_, fun staged level closed => ?_, fun p staged level opened => ?_⟩
    · exact exec_reports h nofun (owner false (by rw [active]; rfl) _ (s.withCopy_active _))
    · exact exec_refuses h (st := .denied) nofun (owner true (by rw [staged]; rfl) _ (State.withCopy_denied level _))
    · exact exec_refuses h (st := .noEdit) nofun (owner true (by rw [staged]; rfl) _ (State.withCopy_noEdit level closed _))
    · exact exec_reports h nofun (owner true (by rw [staged]; rfl) _ (State.withCopy_staged level opened _))

/-! ## The refusals of COMMIT (R119, R120) -/

/-- In a list in rising order of a key, the first that passes a test is the one below which none does. -/
theorem find?_first {α : Type} {key : α → Nat} {test : α → Bool} {l : List α} (rising : l.Pairwise fun a b => key a < key b) {a : α}
    (mem : a ∈ l) (passes : test a = true) (first : ∀ b, key b < key a → test b = false) : l.find? test = some a := by
  induction l with
  | nil => cases mem
  | cons b rest ih =>
    obtain ⟨below, later⟩ := List.pairwise_cons.mp rising
    rcases List.mem_cons.mp mem with rfl | mem
    · exact List.find?_cons_of_pos passes
    · rw [List.find?_cons_of_neg (by simp [first b (below a mem)])]
      exact ih later mem

theorem allChans_find? {test : Chan → Bool} {n : Chan} (passes : test n = true) (first : ∀ m, m < n → test m = false) :
    allChans.find? test = some n :=
  find?_first (key := Fin.val) (by decide) (mem_allChans n) passes first

theorem allPoints_find? {test : Point → Bool} {q : Point} (passes : test q = true) (first : ∀ r, r.index < q.index → test r = false) :
    allPoints.find? test = some q :=
  find?_first (key := Point.index) (by decide) (mem_allPoints q) passes first

section

variable {p : Profile} {running : Chan → Bool}

theorem failsFloorCeiling_eq_none (h : ∀ n, (p.channels.get n).floor ≤ (p.channels.get n).ceiling) : failsFloorCeiling p = none := by
  rw [failsFloorCeiling, List.find?_eq_none.mpr fun n _ => by simpa using h n]
  rfl

theorem failsBandEdges_eq_none (first : p.supply.e1 < p.supply.e2) (second : p.supply.e2 < p.supply.e3) : failsBandEdges p = none := by
  rw [failsBandEdges, if_neg (Nat.not_le.mpr first), if_neg (Nat.not_le.mpr second)]

theorem failsDriveWindow_eq_none (h : p.supply.driveMin + 2 * p.supply.hyst < p.supply.driveMax) : failsDriveWindow p = none :=
  if_pos (by omega)

theorem failsWarningWindow_eq_none (h : ∀ q, ¬((p.windows.get q).high ≤ (p.windows.get q).low
    ∨ (p.windows.get q).high - (p.windows.get q).low ≤ (p.windows.get q).hyst)) : failsWarningWindow p = none := by
  rw [failsWarningWindow, List.find?_eq_none.mpr fun q _ => by simpa using h q]
  rfl

theorem failsInUse_eq_none (h : ∀ n, running n = true → (p.channels.get n).usable = true) : failsInUse p running = none := by
  rw [failsInUse, List.find?_eq_none.mpr fun n _ => by simpa using h n]
  rfl

theorem firstFailure_eq_some {check : CommitCheck} {index : Nat}
    (h : (failsFloorCeiling p = some index ∧ check = .floorCeiling)
      ∨ failsFloorCeiling p = none ∧ ((failsBandEdges p = some index ∧ check = .bandEdges)
      ∨ failsBandEdges p = none ∧ ((failsDriveWindow p = some index ∧ check = .driveWindow)
      ∨ failsDriveWindow p = none ∧ ((failsWarningWindow p = some index ∧ check = .warningWindow)
      ∨ failsWarningWindow p = none ∧ ((failsInUse p running = some index ∧ check = .inUse)
      ∨ failsInUse p running = none ∧ (failsCoverage p running = some index ∧ check = .coverage)))))) :
    firstFailure p running = some (check, index) := by
  unfold firstFailure
  rcases h with ⟨fails, rfl⟩ | ⟨floors, ⟨fails, rfl⟩ | ⟨edges, ⟨fails, rfl⟩ | ⟨drive, ⟨fails, rfl⟩ | ⟨warnings, ⟨fails, rfl⟩
    | ⟨inUse, fails, rfl⟩⟩⟩⟩⟩ <;> simp [*]

end

/-- R119: a COMMIT by its flag and the edit. -/
theorem exec_commit_refused {s : State} {tag flag : Byte} (h : s.Executes .commit tag [flag]) {p : Profile} {persist : Bool}
    (inRange : flagIn flag = some persist) (opened : s.store.staged = some p) (free : persist = true → s.nv.op = none)
    (more : s.store.active.generation ≠ 4294967295) {check : CommitCheck} {index : Nat}
    (fails : firstFailure p (fun n => (s.channels.get n).state.isRunning) = some (check, index)) :
    exec (.commit tag [flag]) s = .next (s.answered .commit tag [flag] [10, byteOf check.code, byteOf index]) := by
  refine exec_executes h s ⟨.invalid, [byteOf check.code, byteOf index]⟩ ?_ (by simp [answerResets])
  have idle : ¬(persist = true ∧ (s.asked .commit tag [flag]).nv.op.isSome = true) := by
    rintro ⟨asks, busy⟩
    have none : (s.asked .commit tag [flag]).nv.op = none := free asks
    rw [none] at busy
    cases busy
  have staged : (s.asked .commit tag [flag]).store.staged = some p := opened
  have failed : firstFailure p (s.asked .commit tag [flag]).isRunning = some (check, index) := fails
  have last : ¬(s.asked .commit tag [flag]).store.active.generation = 4294967295 := more
  simp only [ownerServes, serveCommit, inRange, staged, idle, last, failed, if_false]

theorem flagIn_cases {b : Byte} (inRange : b.toNat ≤ 1) : ∃ on, flagIn b = some on ∧ (on = true ↔ b = 1) := by
  have byte : byteOf b.toNat = b := byteOf_toNat_self b
  interval_cases value : b.toNat
  · exact ⟨false, by rw [← byte]; rfl, by rw [← byte]; decide⟩
  · exact ⟨true, by rw [← byte]; rfl, by rw [← byte]; decide⟩

/-- Settles O43: the refusals in order, then the checks in order, each with the first item that fails. -/
theorem aRefusedCommitChangesNothing : Obligations.ARefusedCommitChangesNothing := by
  intro s tag flag h answered
  refine ⟨fun above => ?_, fun inRange closed => ?_, fun opened asks busy => ?_, fun opened inRange free => ?_⟩
  · exact exec_outOfRange h fun u => by simp only [ownerServes, serveCommit, flagIn_eq_none (Nat.not_le.mpr above)]
  · obtain ⟨persist, flagged, _⟩ := flagIn_cases inRange
    have none : (s.asked .commit tag [flag]).store.staged = none := closed
    refine exec_refuses h (st := .noEdit) nofun ?_
    simp only [ownerServes, serveCommit, flagged, none]
  · obtain ⟨p, staged⟩ := Option.ne_none_iff_exists'.mp opened
    have some_ : (s.asked .commit tag [flag]).store.staged = some p := staged
    have inFlight : (s.asked .commit tag [flag]).nv.op.isSome = true := Option.isSome_iff_ne_none.mpr busy
    have flagged : flagIn flag = some true := by rw [asks]; rfl
    refine exec_refuses h (st := .busy) nofun ?_
    simp only [ownerServes, serveCommit, flagged, some_, inFlight, and_self, if_true]
  · obtain ⟨persist, flagged, asks⟩ := flagIn_cases inRange
    have idle : persist = true → s.nv.op = none := fun on => free (asks.mp on)
    refine ⟨fun last => ?_, ?_⟩
    · obtain ⟨p, staged⟩ := Option.ne_none_iff_exists'.mp opened
      have some_ : (s.asked .commit tag [flag]).store.staged = some p := staged
      have notBusy : ¬(persist = true ∧ (s.asked .commit tag [flag]).nv.op.isSome = true) := by
        rintro ⟨on, busy⟩
        exact Option.isSome_iff_ne_none.mp busy (idle on)
      have final : (s.asked .commit tag [flag]).store.active.generation = 4294967295 := last
      refine exec_refuses h (st := .state) nofun ?_
      simp only [ownerServes, serveCommit, flagged, some_, notBusy, final, if_false, if_true]
    · intro notLast p staged running
      have fails : ∀ check index, firstFailure p running = some (check, index) → answered [10, byteOf check.code, byteOf index] :=
        fun _ _ => exec_commit_refused h flagged staged idle notLast
      refine ⟨fun n inverted first => fails .floorCeiling n.val (firstFailure_eq_some (.inl ⟨?_, rfl⟩)), fun floors => ?_⟩
      · exact congrArg (Option.map _) (allChans_find? (by simpa using inverted) fun m below => by simpa using first m below)
      have floors := failsFloorCeiling_eq_none floors
      refine ⟨fun low => fails .bandEdges 2 (firstFailure_eq_some (.inr ⟨floors, .inl ⟨if_pos low, rfl⟩⟩)), fun first low => fails .bandEdges 3
        (firstFailure_eq_some (.inr ⟨floors, .inl ⟨(if_neg (Nat.not_le.mpr first)).trans (if_pos low), rfl⟩⟩)), fun first second => ?_⟩
      have edges := failsBandEdges_eq_none first second
      refine ⟨fun narrow => fails .driveWindow 0 (firstFailure_eq_some (.inr ⟨floors, .inr ⟨edges, .inl ⟨if_neg (by omega), rfl⟩⟩⟩)),
        fun wide => ?_⟩
      have drive := failsDriveWindow_eq_none wide
      intro narrow
      refine ⟨fun q bad first => fails .warningWindow q.index
        (firstFailure_eq_some (.inr ⟨floors, .inr ⟨edges, .inr ⟨drive, .inl ⟨?_, rfl⟩⟩⟩⟩)), fun windows => ?_⟩
      · exact congrArg (Option.map _) (allPoints_find? (by simpa [narrow] using bad) fun r below => by simpa [narrow] using first r below)
      have windows := failsWarningWindow_eq_none windows
      refine ⟨fun n on unusable first => fails .inUse n.val
        (firstFailure_eq_some (.inr ⟨floors, .inr ⟨edges, .inr ⟨drive, .inr ⟨windows, .inl ⟨?_, rfl⟩⟩⟩⟩⟩)), fun usable n on uncovered first =>
        fails .coverage n.val (firstFailure_eq_some
          (.inr ⟨floors, .inr ⟨edges, .inr ⟨drive, .inr ⟨windows, .inr ⟨failsInUse_eq_none usable, ?_, rfl⟩⟩⟩⟩⟩))⟩
      · exact congrArg (Option.map _) (allChans_find? (by simp [on, unusable]) fun m below => by simpa using first m below)
      · exact congrArg (Option.map _) (allChans_find? (by simp [on, uncovered]) fun m below => by simpa using first m below)

end Sys2Proof.Machine

/-! The completion of a conversion (R82 to R95): the record and the warning state of a point, and what a channel point leaves. -/

namespace Sys2Proof.Machine

/-! ## The record of a point (R82, R87, R89, R90) -/

theorem exec_conversionCompletion {s : State} {left : Nat} (running : s.seq.running = true) (timer : s.seq.timer = .running left)
    (value : Int) : exec (.conversionCompletion value) s = .next ((s.elapse left).conversionCompletes value).settle := by
  show execConversionCompletion value s = _
  rw [execConversionCompletion, running, timer]

/-- R82: what the front end delivers is the value brought into the range of its point. -/
theorem Point.deliver_eq (p : Point) (v : Int) : p.deliver v = max p.least (min v p.greatest) := by
  have ordered : p.least ≤ p.greatest := by cases p <;> simp [Point.least, Point.greatest]
  unfold Point.deliver
  split_ifs <;> omega

theorem PerPoint.set_set {α : Type} (w : PerPoint α) (p : Point) (a b : α) : (w.set p a).set p b = w.set p b := by
  cases p with
  | temp | supply => rfl
  | chan n k =>
    match n with
    | 0 | 1 | 2 | 3 => cases k <;> rfl

theorem PerPoint.set_get {α : Type} (w : PerPoint α) (p : Point) : w.set p (w.get p) = w := by
  cases p with
  | temp | supply => rfl
  | chan n k =>
    match n with
    | 0 | 1 | 2 | 3 => cases k <;> rfl

/-- R87: the smoothed value of a point after a delivered value. -/
def State.smoothedAfter (s : State) (p : Point) (v : Int) : Int :=
  smooth (s.seq.records.get p).valid (s.seq.records.get p).smoothed v (s.store.active.windows.get p).depth

/-- R89: the warning state of a point after a delivered value. -/
def State.warningAfter (s : State) (p : Point) (v : Int) : Warning :=
  nextWarning (s.seq.records.get p).warning (s.store.active.windows.get p) (s.smoothedAfter p v)

/-- R87, R90: the state once the record of `p` stands at a delivered value under a warning state. -/
def State.recorded (s : State) (p : Point) (v : Int) (w : Warning) : State :=
  { s with
    seq := { s.seq with records := s.seq.records.set p ⟨v, s.smoothedAfter p v, true, w, s.startup.uptime⟩ }
    log := s.log.markPoint p
    notices := if w = (s.seq.records.get p).warning then s.notices else s.notices.post (.warning p w (s.smoothedAfter p v)) }

/-- R87: a record taken leaves the warning state. -/
theorem State.takeResult_eq (s : State) (p : Point) (v : Int) : s.takeResult p v = s.recorded p v (s.seq.records.get p).warning := by
  unfold State.recorded
  rw [if_pos rfl]
  rfl

/-- R89, R90: and its evaluation moves it, with a notice of a change. -/
theorem State.takeResult_evaluateWarning (s : State) (p : Point) (v : Int) :
    (s.takeResult p v).evaluateWarning p = s.recorded p v (s.warningAfter p v) := by
  have record : (s.takeResult p v).seq.records.get p
      = ⟨v, s.smoothedAfter p v, true, (s.seq.records.get p).warning, s.startup.uptime⟩ := by
    show (s.seq.records.set p _).get p = _
    rw [PerPoint.get_set, if_pos rfl]
    rfl
  unfold State.evaluateWarning
  dsimp only
  rw [record]
  by_cases kept : s.warningAfter p v = (s.seq.records.get p).warning
  · have kept' : nextWarning (s.seq.records.get p).warning ((s.takeResult p v).store.active.windows.get p) (s.smoothedAfter p v)
        = (s.seq.records.get p).warning := kept
    rw [if_pos kept', State.takeResult_eq, kept]
  · have moved : ¬nextWarning (s.seq.records.get p).warning ((s.takeResult p v).store.active.windows.get p) (s.smoothedAfter p v)
        = (s.seq.records.get p).warning := kept
    have again : (s.takeResult p v).seq.records.set p
        ⟨v, s.smoothedAfter p v, true, s.warningAfter p v, s.startup.uptime⟩
        = s.seq.records.set p ⟨v, s.smoothedAfter p v, true, s.warningAfter p v, s.startup.uptime⟩ := PerPoint.set_set _ _ _ _
    rw [if_neg moved, State.recorded, if_neg kept]
    exact congrArg (fun records : PerPoint PointRecord => ({ s with
      seq := { s.seq with records := records }
      log := s.log.markPoint p
      notices := s.notices.post (.warning p (s.warningAfter p v) (s.smoothedAfter p v)) } : State)) again

/-! ## Channel points (R84, R85) -/

theorem nextIndex_chan (n : Chan) (k : ChanPoint) : nextIndex (.chan n k) = if n = 3 ∧ k = .ref then .temp
    else match k with
      | .cur => .chan n .fwd
      | .fwd => .chan n .ref
      | .ref => .chan (n + 1) .cur := by
  match n with
  | 0 | 1 | 2 | 3 => cases k <;> rfl

/-- R85: after a channel point the rotation goes on in index order, or returns to TEMP. -/
theorem nextPoint_chan (n : Chan) (k : ChanPoint) (ok : Bool) (mode : Rotation) : nextPoint (.chan n k) ok mode
    = (if mode = .full ∧ ¬(n = 3 ∧ k = .ref) then
        (match k with
        | .cur => .chan n .fwd
        | .fwd => .chan n .ref
        | .ref => .chan (n + 1) .cur)
      else .temp, mode) := by
  unfold nextPoint
  cases mode with
  | full =>
    rw [nextIndex_chan]
    by_cases last : n = 3 ∧ k = .ref <;> simp [last]
  | restricted => simp

/-- Settles O35: the record by the state of the channel, and the next point by the mode. -/
theorem aChannelPointCompletionUpdatesItsRecord : Obligations.AChannelPointCompletionUpdatesItsRecord := by
  intro s left value n k running timer point u r win delivered smoothed warning
  have steps : (u.takeResult (.chan n k) delivered).chanPointSteps n k = u.recorded (.chan n k) delivered warning := by
    have active : ((u.takeResult (.chan n k) delivered).channels.get n).state = (s.channels.get n).state := by
      show ((s.channels.map (Channel.elapse left)).get n).state = _
      rw [Quad.get_map]
      rfl
    unfold State.chanPointSteps
    rw [active]
    split_ifs with driven
    · rw [State.takeResult_evaluateWarning]
      have same : warning = u.warningAfter (.chan n k) delivered := if_pos driven
      rw [same]
    · rw [State.takeResult_eq]
      have same : warning = r.warning := if_neg driven
      rw [same]
      rfl
  have delivers : (Point.chan n k).deliver value = delivered := Point.deliver_eq _ _
  have done : u.conversionCompletes value = (u.recorded (.chan n k) delivered warning).beginNext (.chan n k) := by
    have at_ : u.seq.point = .chan n k := point
    unfold State.conversionCompletes
    rw [at_]
    dsimp only
    rw [delivers]
    exact congrArg (State.beginNext · _) steps
  rw [exec_conversionCompletion running timer, done, State.beginNext]
  have mode : (u.recorded (.chan n k) delivered warning).seq.mode = s.seq.mode := rfl
  rw [mode, nextPoint_chan]
  rfl

end Sys2Proof.Machine

/-! A condition that is judged: the over-temperature trips it confirms and the evaluation of wait reasons that follows (R28, R95,
R97), and what a TEMP completion leaves (R88). -/

namespace Sys2Proof.Machine

/-! ## The log after trips (R145) -/

theorem FaultLog.append_kept (l : FaultLog) (r : FaultRecord) (within : l.records.length ≤ 24) :
    (l.append r).records = keptRecords l.records [r] := by
  unfold FaultLog.append keptRecords
  dsimp only
  by_cases full : Config.logCapacity ≤ l.records.length
  · have size : l.records.length = 24 := Nat.le_antisymm within full
    have drop : (l.records ++ [r]).length - 24 = 1 := by rw [List.length_append, size]; rfl
    obtain ⟨first, rest, cons⟩ : ∃ first rest, l.records = first :: rest := by
      cases records : l.records with
      | nil => simp [records] at size
      | cons first rest => exact ⟨first, rest, rfl⟩
    rw [if_pos full, drop, cons]
    rfl
  · have size : l.records.length < 24 := Nat.lt_of_not_le full
    have drop : (l.records ++ [r]).length - 24 = 0 := by
      rw [List.length_append, List.length_singleton]
      omega
    rw [if_neg full, drop, List.drop_zero]

theorem keptRecords_length (old new : List FaultRecord) : (keptRecords old new).length ≤ 24 := by
  unfold keptRecords
  rw [List.length_drop]
  omega

theorem keptRecords_cons (old new : List FaultRecord) (r : FaultRecord) :
    keptRecords (keptRecords old [r]) new = keptRecords old (r :: new) := by
  unfold keptRecords
  have whole : old ++ r :: new = (old ++ [r]) ++ new := by simp
  rw [whole]
  generalize old ++ [r] = first
  rw [← List.drop_append_of_le_length (l₂ := new) (Nat.sub_le first.length 24), List.drop_drop]
  congr 1
  simp only [List.length_drop, List.length_append]
  omega

/-- R145: the log keeps the newest 24 of what stood and what is appended. -/
theorem FaultLog.appendAll_records (l : FaultLog) (new : List FaultRecord) (within : l.records.length ≤ 24) :
    (l.appendAll new).records = keptRecords l.records new := by
  induction new generalizing l with
  | nil =>
    rw [FaultLog.appendAll_nil, keptRecords, List.append_nil, Nat.sub_eq_zero_of_le within, List.drop_zero]
  | cons r rest ih =>
    have kept := l.append_kept r within
    rw [FaultLog.appendAll_cons, ih (l.append r) (kept ▸ keptRecords_length _ _), kept, keptRecords_cons]

/-! ## Trips, then wait reasons -/

/-- R28: a channel that trips leaves for a state in which it waits for nothing. -/
theorem State.heated_ne_qualifying (s : State) (n : Chan) {v : ChanView} (takes : v.chan.state.takesTrips = true) (number : BitVec 16) :
    (s.heated n v number).chan.state ≠ .qualifying := by
  unfold State.heated
  cases v.heatAction (s.prof n) with
  | retry | lock | stop => simp [Action.heatPath, State.follow, ChanView.enters, Channel.enter]
  | report =>
    intro qualifying
    have same : v.chan.state = .qualifying := qualifying
    rw [same] at takes
    cases takes

/-- R95, R97: whether channel `n` trips on a condition that was `was` before. -/
def State.heats (s : State) (was : Bool) (n : Chan) : Bool := s.seq.overTemp && !was && s.takes n

/-- R28, R95, R97: the trips of a condition that has become set, and then, where something that channels wait for has changed, the
evaluation of their wait reasons. -/
def State.heatTurn (s : State) (was evaluates : Bool) (cause : Cause) : State :=
  if evaluates = true then forEachChan (fun s n => s.reevaluate n cause) (s.overTempReplaced was) else s.overTempReplaced was

section

variable (s : State) (was : Bool)

/-- R97: the channels trip where the condition is set and was not. -/
theorem State.overTempReplaced_does :
    let number := numberAmong s.log.next (s.heats was)
    let t := s.overTempReplaced was
    (∀ n, t.view n = if s.heats was n then s.heated n (s.view n) (number n) else s.view n)
    ∧ t.notices = s.notices.postAll ((allChans.filter (s.heats was)).flatMap fun n => s.heatNotices n (s.view n) (number n))
    ∧ s.SameElsewhere t
    ∧ (s.log.appendAll ((allChans.filter (s.heats was)).map fun n => s.heatRecord n (s.view n) (number n))).Same t.log := by
  unfold State.overTempReplaced
  by_cases sets : (s.seq.overTemp && !was) = true
  · have heats : s.heats was = s.takes := funext fun n => by rw [State.heats, sets, Bool.true_and]
    rw [if_pos sets, heats]
    exact s.confirmOverTemp_does
  · have heats : ∀ n, s.heats was n = false := fun n => by
      rw [State.heats, Bool.eq_false_iff.mpr sets, Bool.false_and]
    have none : allChans.filter (s.heats was) = [] := List.filter_eq_nil_iff.mpr fun n _ => by simp [heats]
    rw [if_neg sets, none]
    exact ⟨fun n => by rw [heats, if_neg Bool.false_ne_true], rfl, .refl s, rfl, rfl⟩

/-- R8: what the evaluation leaves of a channel that trips, and what it does to another. -/
theorem State.heatTurn_does (evaluates : Bool) (cause : Cause) :
    let number := numberAmong s.log.next (s.heats was)
    let t := s.heatTurn was evaluates cause
    (∀ n, t.view n = if s.heats was n then s.heated n (s.view n) (number n)
      else if evaluates then s.evaluated n (s.view n) cause else s.view n)
    ∧ t.notices = s.notices.postAll (((allChans.filter (s.heats was)).flatMap fun n => s.heatNotices n (s.view n) (number n))
      ++ (allChans.flatMap fun n => if evaluates then
          pathNotices n (s.waitReasons n) .qualifying (s.readyPath n (s.channels.get n).state cause) else []))
    ∧ s.SameElsewhere t
    ∧ (s.log.appendAll ((allChans.filter (s.heats was)).map fun n => s.heatRecord n (s.view n) (number n))).Same t.log := by
  intro number t
  obtain ⟨views, notices, elsewhere, log⟩ := s.overTempReplaced_does was
  cases evaluates with
  | false =>
    have same : t = s.overTempReplaced was := if_neg Bool.false_ne_true
    rw [same]
    refine ⟨fun n => (views n).trans (by simp only [Bool.false_eq_true, if_false, number]), ?_, elsewhere, log⟩
    rw [notices]
    have none : (allChans.flatMap fun n => if false = true then
        pathNotices n (s.waitReasons n) .qualifying (s.readyPath n (s.channels.get n).state cause) else []) = [] := rfl
    rw [none, List.append_nil]
  | true =>
    have same : t = forEachChan (fun s n => s.reevaluate n cause) (s.overTempReplaced was) := if_pos rfl
    rw [same]
    obtain ⟨views', notices', elsewhere', log'⟩ := forEachChan_reevaluate (s.overTempReplaced was) cause
    have takes : ∀ n, s.heats was n = true → (s.view n).chan.state.takesTrips = true := fun n trips => by
      simp only [State.heats, Bool.and_eq_true] at trips
      exact trips.2
    have state : ∀ n, s.heats was n = true → ((s.overTempReplaced was).view n).chan.state ≠ .qualifying := fun n trips => by
      rw [views n, if_pos trips]
      exact s.heated_ne_qualifying n (takes n trips) _
    have paths : ∀ n, s.readyPath n ((s.overTempReplaced was).channels.get n).state cause = s.readyPath n (s.channels.get n).state cause :=
      fun n => by
        cases trips : s.heats was n with
        | true =>
          have before : (s.channels.get n).state ≠ .qualifying := fun waits => by
            have := takes n trips
            rw [show (s.view n).chan.state = .qualifying from waits] at this
            cases this
          exact (s.readyPath_elsewhere n (state n trips) cause).trans (s.readyPath_elsewhere n before cause).symm
        | false =>
          have view := views n
          rw [if_neg (by simp [trips])] at view
          rw [State.chan_eq_of_view view]
    refine ⟨fun n => ?_, ?_, elsewhere.trans elsewhere', log'.1.trans log.1, log'.2.trans log.2⟩
    · rw [views' n, elsewhere.ground.evaluated]
      cases trips : s.heats was n with
      | true =>
        rw [s.evaluated_elsewhere n (state n trips), views n, if_pos trips, if_pos rfl]
      | false =>
        rw [views n, if_neg (by simp [trips]), if_neg Bool.false_ne_true, if_pos rfl]
    · rw [notices', notices, NoticeQueue.postAll_append]
      refine congrArg _ (List.flatMap_congr fun n _ => ?_)
      rw [elsewhere.waitReasons, elsewhere.ground.readyPath, paths, if_pos rfl]

end

/-- R156: a notice that is posted or not is a list of one or none. -/
theorem postAll_ite {c : Prop} [Decidable c] (q : NoticeQueue) (body : NoticeBody) :
    q.postAll (if c then [] else [body]) = if c then q else q.post body := by
  split_ifs <;> rfl

/-! ## A TEMP completion (R88, R95) -/

/-- R88: the part once a temperature has been recorded, the targets are computed and the condition is judged. -/
def State.tempJudged (s : State) (v : Int) : State :=
  ((s.recorded .temp v (s.warningAfter .temp v)).recomputeTargets).evaluateOverTemp

/-- R88: a TEMP completion judges the condition, carries its change to the channels and goes on with SUPPLY. -/
theorem State.conversionCompletes_temp {s : State} (point : s.seq.point = .temp) (value : Int) :
    s.conversionCompletes value = ((s.tempJudged (Point.temp.deliver value)).heatTurn s.seq.overTemp
      (!s.seq.records.temp.valid || (s.tempJudged (Point.temp.deliver value)).seq.overTemp != s.seq.overTemp) .ready).beginNext
        .temp := by
  have judged : ((s.takeResult .temp (Point.temp.deliver value)).evaluateWarning .temp).recomputeTargets.evaluateOverTemp
      = s.tempJudged (Point.temp.deliver value) := by
    rw [State.takeResult_evaluateWarning]
    rfl
  have steps : (s.takeResult .temp (Point.temp.deliver value)).tempSteps s.seq.records.temp.valid
      = (s.tempJudged (Point.temp.deliver value)).heatTurn s.seq.overTemp
        (!s.seq.records.temp.valid || (s.tempJudged (Point.temp.deliver value)).seq.overTemp != s.seq.overTemp) .ready := by
    rw [State.tempSteps_eq, judged]
    rfl
  rw [← steps]
  unfold State.conversionCompletes
  rw [point]
  rfl

section

variable (s : State) (v : Int) (n : Chan)

theorem State.tempJudged_target : (s.tempJudged v).targets.get n
    = (evaluateCurve (s.prof n) (s.smoothedAfter .temp v) s.seq.band).2.1 := by
  show (Quad.ofFn (s.recorded .temp v (s.warningAfter .temp v)).liveTarget).get n = _
  rw [Quad.get_ofFn]
  rfl

end

/-- R84, R85: what goes on after a point is for the rotation alone. -/
theorem State.beginNext_ground (s : State) (p : Point) : s.SameGround (s.beginNext p) := ⟨rfl, rfl, rfl, fun _ => rfl, rfl, rfl⟩

/-- Settles O32: the judgement, the turn of the channels, and the rotation. -/
theorem aTempCompletionFeedsTargetsAndCondition : Obligations.ATempCompletionFeedsTargetsAndCondition := by
  intro s left value running timer point u r delivered smoothed warning limit hot
  have delivers : Point.temp.deliver value = delivered := Point.deliver_eq _ _
  have at_ : u.seq.point = .temp := point
  have judgedHot : (u.tempJudged delivered).seq.overTemp = hot := rfl
  have done := State.conversionCompletes_temp at_ value
  rw [delivers, judgedHot] at done
  obtain ⟨_, _, elsewhere, _⟩ := (u.tempJudged delivered).heatTurn_does u.seq.overTemp
    (!u.seq.records.temp.valid || hot != u.seq.overTemp) .ready
  refine ⟨_, (exec_conversionCompletion running timer value).trans (congrArg (fun t : State => Host.Outcome.next t.settle) done), ?_⟩
  have quiet : hot = s.seq.overTemp → r.valid = true → (u.tempJudged delivered).heatTurn u.seq.overTemp
      (!u.seq.records.temp.valid || hot != u.seq.overTemp) .ready = u.tempJudged delivered := fun same valid => by
    have waits : (!u.seq.records.temp.valid || hot != u.seq.overTemp) = false := by
      show (!r.valid || hot != s.seq.overTemp) = false
      rw [valid, same, bne_self_eq_false]
      rfl
    have clear : ((u.tempJudged delivered).seq.overTemp && !u.seq.overTemp) = false := by
      show (hot && !s.seq.overTemp) = false
      rw [same, Bool.and_not_self]
    rw [State.heatTurn, waits, if_neg Bool.false_ne_true, State.overTempReplaced, clear, if_neg Bool.false_ne_true]
  generalize (u.tempJudged delivered).heatTurn u.seq.overTemp (!u.seq.records.temp.valid || hot != u.seq.overTemp) .ready = k
    at elsewhere quiet
  obtain ⟨runs, _, _, mode⟩ := elsewhere.rotation
  obtain ⟨supply, band, heat⟩ := elsewhere.conditions
  refine ⟨elsewhere.records.1, elsewhere.records.2, heat, supply, band, runs.trans running, rfl, rfl, mode, fun n => ?_, elsewhere.store,
    elsewhere.nv, elsewhere.lines.1, elsewhere.lines.2, elsewhere.startup, elsewhere.pending, elsewhere.scanning.1,
    elsewhere.scanning.2, fun same valid => ?_⟩
  · show k.targets.get n = _
    rw [elsewhere.targets, State.tempJudged_target]
    rfl
  · rw [quiet same valid]
    exact ⟨rfl, rfl, rfl, rfl, rfl⟩

/-! ## The lines of the part (R31, R53) -/

section

variable (s : State)

theorem State.fastOff_iff (n : Chan) : s.fastOff n = true ↔ (s.channels.get n).state = .tripped ∨ (s.channels.get n).state = .locked := by
  unfold State.fastOff
  cases (s.channels.get n).state <;> simp [ChState.isFaulted]

theorem State.faultAsserted_iff : s.faultAsserted = true ↔ ∃ n, (s.prof n).faultLine = true
    ∧ ((s.channels.get n).state = .tripped ∨ (s.channels.get n).state = .locked) := by
  simp [State.faultAsserted, s.fastOff_iff, mem_allChans]

theorem State.biasOutput_eq (n : Chan) :
    s.biasOutput n = if (s.drive.get n).mode = .undriven then none else some (s.drive.get n).output := by
  unfold State.biasOutput
  cases (s.drive.get n).mode <;> rfl

end

/-- Settles O33: the turn of the channels, told with the part as the completion leaves it. -/
theorem overTemperatureTripsTheDrivenChannels : Obligations.OverTemperatureTripsTheDrivenChannels := by
  intro s left value running timer point u r delivered smoothed warning limit hot trips number evaluates
  have delivers : Point.temp.deliver value = delivered := Point.deliver_eq _ _
  have at_ : u.seq.point = .temp := point
  have done := State.conversionCompletes_temp at_ value
  rw [delivers] at done
  obtain ⟨views, notices, elsewhere, records, next⟩ := (u.tempJudged delivered).heatTurn_does u.seq.overTemp
    (!u.seq.records.temp.valid || (u.tempJudged delivered).seq.overTemp != u.seq.overTemp) .ready
  refine ⟨_, (exec_conversionCompletion running timer value).trans (congrArg (fun t : State => Host.Outcome.next t.settle) done), ?_⟩
  have state : ∀ n, (u.channels.get n).state = (s.channels.get n).state := fun n => by
    show ((s.channels.map (Channel.elapse left)).get n).state = _
    rw [Quad.get_map]
    rfl
  have heats : (u.tempJudged delivered).heats u.seq.overTemp = trips := funext fun n => by
    show (hot && !s.seq.overTemp && (u.channels.get n).state.takesTrips) = trips n
    rw [state n]
    show _ = (match (s.channels.get n).state with
      | .ramping | .active | .windingDown => hot && !s.seq.overTemp
      | .disabled | .qualifying | .held | .tripped | .locked => false)
    cases (s.channels.get n).state <;> simp [ChState.takesTrips]
  have asks : ((!u.seq.records.temp.valid || (u.tempJudged delivered).seq.overTemp != u.seq.overTemp) = true) ↔ evaluates := by
    show ((!r.valid || hot != s.seq.overTemp) = true) ↔ (r.valid = false ∨ hot ≠ s.seq.overTemp)
    simp
  rw [heats] at views notices records next
  generalize (u.tempJudged delivered).heatTurn u.seq.overTemp
    (!u.seq.records.temp.valid || (u.tempJudged delivered).seq.overTemp != u.seq.overTemp) .ready = k
    at elsewhere views notices records next
  have ground : (u.tempJudged delivered).SameGround (k.beginNext .temp) := elsewhere.ground.trans (k.beginNext_ground .temp)
  refine ⟨elsewhere.conditions.2.2, congrArg PointRecord.smoothed elsewhere.records.1, fun n => ?_, ?_, fun within => ?_, ?_,
    fun n => State.fastOff_iff _ n, ?_, fun n => State.biasOutput_eq _ n⟩
  · rw [ground.heated, ground.evaluated]
    exact (views n).trans (if_congr Iff.rfl rfl (if_congr asks rfl rfl))
  · show k.log.next = _
    rw [next, FaultLog.appendAll_next, List.length_map]
    rfl
  · show k.log.records = _
    rw [records, FaultLog.appendAll_records (u.tempJudged delivered).log _ within]
    refine congrArg (keptRecords s.log.records) (List.map_congr_left fun n _ => ?_)
    rw [ground.heatRecord]
    rfl
  · have warned : (u.tempJudged delivered).notices
        = u.notices.postAll (if warning = r.warning then [] else [.warning .temp warning smoothed]) := by
      rw [postAll_ite]
      rfl
    have told : ∀ n, (u.tempJudged delivered).readyPath n (u.channels.get n).state .ready
        = (k.beginNext .temp).readyPath n (s.channels.get n).state .ready := fun n => by rw [ground.readyPath, state]
    show k.notices = _
    rw [notices, warned, ← NoticeQueue.postAll_append, List.append_assoc]
    refine congrArg (fun bodies => u.notices.postAll (_ ++ bodies)) (congrArg₂ (· ++ ·) ?_ ?_)
    · exact List.flatMap_congr fun n _ => (ground.heatNotices n (u.view n) (number n)).symm
    · refine List.flatMap_congr fun n _ => if_congr asks ?_ rfl
      rw [ground.waits, ← told]
      rfl
  · refine (State.faultAsserted_iff _).trans (exists_congr fun n => ?_)
    rw [ground.prof]
    exact Iff.rfl

end Sys2Proof.Machine

/-! What a SUPPLY completion leaves (R88, R92, R93, R27). -/

namespace Sys2Proof.Machine

/-! ## Targets (R38 to R41) -/

theorem State.liveTarget_eq (s : State) (n : Chan) : (s.liveTarget n : Int) =
    if s.tempValid then (s.prof n).targetAt s.seq.records.temp.smoothed s.seq.band else (s.prof n).floor := by
  unfold State.liveTarget
  split_ifs
  · exact limitTo_target _ _ _
  · rfl

/-! ## The band (R93, R42) -/

/-- R93: the band once the supply has been judged. -/
def State.bandAfter (s : State) : Fin 4 := nextBand s.seq.band s.store.active.supply s.seq.records.supply.smoothed

/-- R42: a band that changes is the ground of new targets. -/
theorem State.evaluateBand_eq (s : State) : s.evaluateBand = { s with
    seq := { s.seq with band := s.bandAfter }
    targets := if s.bandAfter = s.seq.band then s.targets
      else Quad.ofFn (s.withSeq { s.seq with band := s.bandAfter }).liveTarget } := by
  unfold State.evaluateBand
  dsimp only
  by_cases same : s.bandAfter = s.seq.band
  · have same' : nextBand s.seq.band s.store.active.supply s.seq.records.supply.smoothed = s.seq.band := same
    rw [if_pos same', if_pos same, same]
  · have differs : ¬nextBand s.seq.band s.store.active.supply s.seq.records.supply.smoothed = s.seq.band := same
    rw [if_neg differs, if_neg same]
    rfl

/-! ## The status (R92, R27) -/

/-- R92: the status once the supply has been judged. -/
def State.supplyAfter (s : State) : Bool :=
  nextSupplyOk s.seq.supplyOk s.store.active.supply s.seq.records.supply.smoothed

/-- R92: the part with that status. -/
def State.supplyJudged (s : State) : State := s.withSeq { s.seq with supplyOk := s.supplyAfter }

/-- R92, R27: a change of the status is told and handed to the channels. -/
theorem State.evaluateSupply_does (s : State) :
    let t := s.evaluateSupply
    let changes := s.supplyAfter ≠ s.seq.supplyOk
    (∀ n, t.view n = if changes ∧ s.supplyAfter = false ∧ (s.channels.get n).state ≠ .qualifying then
        s.supplyJudged.follow n (s.view n) (s.channels.get n).state.lostPath
      else if changes then s.supplyJudged.evaluated n (s.view n) .ready else s.view n)
    ∧ t.notices = s.notices.postAll
      ((if changes then [.supply s.supplyAfter s.seq.records.supply.smoothed s.seq.band] else [])
        ++ (allChans.flatMap fun n => if changes then
            pathNotices n (s.supplyJudged.waitReasons n) (s.channels.get n).state
                (if s.supplyAfter then [] else (s.channels.get n).state.lostPath)
              ++ pathNotices n (s.supplyJudged.waitReasons n) .qualifying
                (s.supplyJudged.readyPath n (s.channels.get n).state .ready)
          else []))
    ∧ s.supplyJudged.SameElsewhere t ∧ s.SameLog t := by
  intro t changes
  by_cases same : s.supplyAfter = s.seq.supplyOk
  · have stays : ¬changes := not_not_intro same
    have kept : t = s := if_pos same
    have judged : s.supplyJudged = s := by rw [State.supplyJudged, same]; rfl
    have quiet : (allChans.flatMap fun n => if changes then
        pathNotices n (s.supplyJudged.waitReasons n) (s.channels.get n).state
            (if s.supplyAfter then [] else (s.channels.get n).state.lostPath)
          ++ pathNotices n (s.supplyJudged.waitReasons n) .qualifying
            (s.supplyJudged.readyPath n (s.channels.get n).state .ready)
      else []) = [] := by simp only [stays, if_false, List.flatMap_eq_nil_iff, implies_true]
    rw [kept, judged]
    rw [judged] at quiet
    refine ⟨fun n => ?_, ?_, .refl s, rfl, rfl⟩
    · simp only [stays, false_and, if_false]
    · rw [quiet, if_neg stays]
      rfl
  · have moves : t = forEachChan State.supplyChanged s.supplyJudged.postSupply := if_neg same
    obtain ⟨views, notices, elsewhere, log⟩ := forEachChan_supplyChanged s.supplyJudged.postSupply
    rw [← moves] at views notices elsewhere log
    have ground : s.supplyJudged.SameElsewhere s.supplyJudged.postSupply := by constructor <;> simp [State.postSupply]
    refine ⟨fun n => ?_, ?_, ground.trans elsewhere, log⟩
    · rw [views n]
      have changed : changes := same
      have alike : (s.supplyAfter = false ∧ (s.channels.get n).state ≠ .qualifying)
          ↔ (changes ∧ s.supplyAfter = false ∧ (s.channels.get n).state ≠ .qualifying) := by simp [changed]
      exact if_congr alike rfl (by rw [if_pos changed]; rfl)
    · rw [notices, if_pos same]
      have told : s.supplyJudged.postSupply.notices
          = s.notices.postAll [.supply s.supplyAfter s.seq.records.supply.smoothed s.seq.band] := rfl
      rw [told, NoticeQueue.postAll_append]
      refine congrArg _ (List.flatMap_congr fun n _ => ?_)
      rw [if_pos same]
      rfl

/-! ## A SUPPLY completion (R88) -/

/-- R88: the part once a supply voltage has been recorded and the band is judged. -/
def State.bandJudged (s : State) (v : Int) : State := (s.recorded .supply v (s.warningAfter .supply v)).evaluateBand

theorem State.conversionCompletes_supply {s : State} (point : s.seq.point = .supply) (value : Int) :
    s.conversionCompletes value = ((s.bandJudged (Point.supply.deliver value)).evaluateSupply).beginNext .supply := by
  have steps : (s.takeResult .supply (Point.supply.deliver value)).supplySteps
      = (s.bandJudged (Point.supply.deliver value)).evaluateSupply := by
    unfold State.supplySteps
    rw [State.takeResult_evaluateWarning]
    rfl
  rw [← steps]
  unfold State.conversionCompletes
  rw [point]
  rfl

/-- Settles O34: the judgement of the band, the turn of the channels on the status, and the rotation. -/
theorem aSupplyCompletionSetsBandAndStatus : Obligations.ASupplyCompletionSetsBandAndStatus := by
  intro s left value running timer point u r delivered smoothed warning band ok changes
  have delivers : Point.supply.deliver value = delivered := Point.deliver_eq _ _
  have at_ : u.seq.point = .supply := point
  have done := State.conversionCompletes_supply at_ value
  rw [delivers] at done
  have layout := (u.recorded .supply delivered (u.warningAfter .supply delivered)).evaluateBand_eq
  obtain ⟨views, notices, elsewhere, log⟩ := (u.bandJudged delivered).evaluateSupply_does
  refine ⟨_, (exec_conversionCompletion running timer value).trans (congrArg (fun t : State => Host.Outcome.next t.settle) done), ?_⟩
  obtain ⟨j, judged⟩ : ∃ j, u.bandJudged delivered = j := ⟨_, rfl⟩
  have eq : j = _ := judged.symm.trans layout
  have state : ∀ n, (j.channels.get n).state = (s.channels.get n).state := fun n => by
    rw [eq]
    show ((s.channels.map (Channel.elapse left)).get n).state = _
    rw [Quad.get_map]
    rfl
  have jView : ∀ n, j.view n = u.view n := fun n => by rw [eq]; rfl
  have jSupply : j.supplyAfter = ok := by rw [eq]; rfl
  have jWas : j.seq.supplyOk = s.seq.supplyOk := by rw [eq]; rfl
  have jBand : j.seq.band = band := by rw [eq]; rfl
  have jHeat : j.seq.overTemp = s.seq.overTemp := by rw [eq]; rfl
  have jRuns : j.seq.running = true := by rw [eq]; exact running
  have jMode : j.seq.mode = s.seq.mode := by rw [eq]; rfl
  have jRecord : j.seq.records.supply = ⟨delivered, smoothed, true, warning, u.startup.uptime⟩ := by rw [eq]; rfl
  have jTemp : j.seq.records.temp = s.seq.records.temp := by rw [eq]; rfl
  have jNotices : j.notices = u.notices.postAll (if warning = r.warning then [] else [.warning .supply warning smoothed]) := by
    rw [eq, postAll_ite]
    rfl
  have jTargets : j.targets = if band = s.seq.band then s.targets else Quad.ofFn j.liveTarget := by rw [eq]; rfl
  have jLog : s.SameLog j := by rw [eq]; exact ⟨rfl, rfl⟩
  have jRest : j.store = u.store ∧ j.nv = u.nv ∧ j.link = u.link ∧ j.pins = s.pins ∧ j.startup = u.startup
      ∧ j.scanner = s.scanner ∧ j.pending = s.pending := by rw [eq]; exact ⟨rfl, rfl, rfl, rfl, rfl, rfl, rfl⟩
  rw [judged] at views notices elsewhere log ⊢
  rw [jSupply, jWas] at views notices
  generalize j.evaluateSupply = k at views notices elsewhere log ⊢
  have ground : j.supplyJudged.SameGround (k.beginNext .supply) := elsewhere.ground.trans (k.beginNext_ground .supply)
  have kSupply : k.seq.supplyOk = ok := elsewhere.conditions.1.trans jSupply
  obtain ⟨jStore, jNv, jLink, jPins, jStartup, jScanner, jPending⟩ := jRest
  have rotates : nextPoint .supply k.seq.supplyOk k.seq.mode = (if ok then .chan 0 .cur else .temp, if ok then .full else .restricted) := by
    rw [kSupply]
    cases ok <;> rfl
  have kTargets : k.targets = if band = s.seq.band then s.targets else Quad.ofFn j.liveTarget := elsewhere.targets.trans jTargets
  refine ⟨elsewhere.records.2.trans jRecord, elsewhere.records.1.trans jTemp, elsewhere.conditions.2.1.trans jBand, kSupply,
    elsewhere.conditions.2.2.trans jHeat, elsewhere.rotation.1.trans jRuns, congrArg Prod.fst rotates, congrArg Prod.snd rotates, rfl,
    fun same => ?_, fun moved n => ?_, fun n => ?_, ?_, ⟨log.1.trans jLog.1, log.2.trans jLog.2⟩, elsewhere.store.trans jStore,
    elsewhere.nv.trans jNv, elsewhere.lines.1.trans jLink, elsewhere.lines.2.trans jPins, elsewhere.startup.trans jStartup,
    elsewhere.scanning.1.trans (congrArg _ jScanner), elsewhere.scanning.2.trans (congrArg _ jScanner),
    elsewhere.pending.trans jPending⟩
  · exact kTargets.trans (if_pos same)
  · show ((k.targets.get n : Nat) : Int) = _
    rw [kTargets, if_neg moved, Quad.get_ofFn, State.liveTarget_eq, State.tempValid, jTemp, jBand, State.prof, jStore]
    rfl
  · rw [ground.follow, ground.evaluated]
    refine (views n).trans ?_
    rw [state, jView]
  · show k.notices = _
    rw [notices, jNotices, ← NoticeQueue.postAll_append, jBand, jRecord, List.append_assoc]
    refine congrArg (fun bodies => u.notices.postAll (_ ++ (_ ++ bodies))) (List.flatMap_congr fun n _ => ?_)
    rw [state, ground.waits, ground.readyPath]

end Sys2Proof.Machine

/-! The installation of a profile (R96, R97, R121 steps 1 to 9, R125) and the requests that carry it out, COMMIT and REVERT. -/

namespace Sys2Proof.Machine

/-! ## Conditions without history (R96) -/

theorem freshSupplyOk_eq (valid : Bool) (p : SupplySettings) (v : Int) :
    freshSupplyOk valid p v = decide (valid = true ∧ p.driveMin ≤ v ∧ v ≤ p.driveMax) := by
  cases valid <;> simp [freshSupplyOk]

theorem freshOverTemp_eq (valid : Bool) (p : SupplySettings) (v : Int) :
    freshOverTemp valid p v = decide (valid = true ∧ 16 * p.thermalLimit ≤ v) := by
  cases valid <;> simp [freshOverTemp]

theorem freshBand_val (valid : Bool) (p : SupplySettings) (v : Int) : (freshBand valid p v).val
    = if valid then ([(p.e1 : Int), p.e2, p.e3].filter fun e => decide (e ≤ v)).length else 0 := by
  unfold freshBand
  cases valid with
  | false => rfl
  | true =>
    rw [if_pos rfl, if_pos rfl]
    by_cases e1 : (p.e1 : Int) ≤ v <;> by_cases e2 : (p.e2 : Int) ≤ v <;> by_cases e3 : (p.e3 : Int) ≤ v <;>
      simp [e1, e2, e3]

/-! ## The channels under a new profile (R29, R61, R77, R78) -/

theorem tallyCleared_iff (was now : TripSetting) (listed : Bool) : tallyCleared was now listed = true
    ↔ was.threshold ≠ now.threshold ∨ was.confirm ≠ now.confirm ∨ listed = false := by
  simp [tallyCleared, or_assoc]

theorem DriveStage.newPark_eq (d : DriveStage) (park : Nat) :
    d.newPark park = if d.mode = .parked then { d with output := park } else d := by
  unfold DriveStage.newPark
  cases d.mode <;> rfl

/-- R121 steps 1 to 6: the profile installed, the conditions judged and the targets computed. -/
def State.installed (s : State) (p : Profile) : State :=
  (s.withStore { s.store with active := p }).takeProfile s.store.active

section

variable (s : State) (p : Profile) (n : Chan)

theorem State.installed_view : (s.installed p).view n = (s.view n).replaced n s.store.active p := by
  have chan : ((s.installed p).view n).chan = ((s.view n).replaced n s.store.active p).chan := Quad.get_ofFn _ _
  have drive : ((s.installed p).view n).drive = ((s.view n).replaced n s.store.active p).drive :=
    (Quad.get_ofFn _ _).trans (DriveStage.newPark_eq _ _)
  have tallies : ((s.installed p).view n).tallies = ((s.view n).replaced n s.store.active p).tallies := by
    refine (Quad.get_ofFn _ _).trans ?_
    have armed : ∀ was now : TripSetting, ∀ listed, rearmed was now listed = true
        ↔ (was.threshold ≠ now.threshold ∨ was.confirm ≠ now.confirm ∨ listed = false) ∨ was.policy ≠ now.policy :=
      fun was now listed => by rw [rearmed, Bool.or_eq_true, tallyCleared_iff, decide_eq_true_eq]
    unfold Tallies.replaced
    simp only [tallyCleared_iff, armed]
    rfl
  have points : ((s.installed p).view n).points = ((s.view n).replaced n s.store.active p).points := rfl
  have entry : ((s.installed p).view n).rampEntry = ((s.view n).replaced n s.store.active p).rampEntry := rfl
  have marks : ((s.installed p).view n).marks = ((s.view n).replaced n s.store.active p).marks := rfl
  generalize (s.installed p).view n = v at *
  generalize (s.view n).replaced n s.store.active p = w at *
  cases v
  cases w
  simp_all

theorem State.installed_target : ((s.installed p).targets.get n : Int) =
    if s.seq.records.temp.valid then (p.channels.get n).targetAt s.seq.records.temp.smoothed (s.installed p).seq.band
    else (p.channels.get n).floor := by
  have computed : (s.installed p).targets.get n = (s.installed p).liveTarget n := Quad.get_ofFn _ _
  rw [computed, State.liveTarget_eq]
  rfl

end

/-! ## A lost supply (R97, R121 step 7) -/

/-- R27, R97: the path of a channel on the status that replaces `was`. -/
def State.replacedPath (s : State) (was : Bool) (n : Chan) : Path :=
  if was = true ∧ s.seq.supplyOk = false then (s.channels.get n).state.lostPath else []

theorem State.supplyReplaced_does (s : State) (was : Bool) :
    let t := s.supplyReplaced was
    (∀ n, t.view n = s.follow n (s.view n) (s.replacedPath was n))
    ∧ t.notices = s.notices.postAll
      ((if s.seq.supplyOk = was then [] else [.supply s.seq.supplyOk s.seq.records.supply.smoothed s.seq.band])
        ++ (allChans.flatMap fun n => pathNotices n (s.waitReasons n) (s.channels.get n).state (s.replacedPath was n)))
    ∧ s.SameElsewhere t ∧ s.SameLog t := by
  have told : s.SameElsewhere s.postSupply := by constructor <;> simp [State.postSupply]
  have quiet : ¬(was = true ∧ s.seq.supplyOk = false) → (∀ n, s.replacedPath was n = [])
      ∧ (allChans.flatMap fun n => pathNotices n (s.waitReasons n) (s.channels.get n).state (s.replacedPath was n)) = [] :=
    fun stays => by
      have none : ∀ n, s.replacedPath was n = [] := fun n => if_neg stays
      exact ⟨none, by simp [none, pathNotices]⟩
  by_cases same : s.seq.supplyOk = was
  · have done : s.supplyReplaced was = s := if_pos same
    obtain ⟨none, silent⟩ := quiet (by rintro ⟨on, off⟩; rw [on] at same; exact Bool.noConfusion (same.symm.trans off))
    rw [done, silent, if_pos same]
    exact ⟨fun n => by rw [none]; rfl, rfl, .refl s, rfl, rfl⟩
  · cases supply : s.seq.supplyOk with
    | true =>
      have done : s.supplyReplaced was = s.postSupply := (if_neg same).trans (if_pos supply)
      obtain ⟨none, silent⟩ := quiet (by rintro ⟨_, off⟩; exact Bool.noConfusion (supply.symm.trans off))
      rw [done, silent, ← supply, if_neg same]
      exact ⟨fun n => by rw [none]; rfl, rfl, told, rfl, rfl⟩
    | false =>
      have done : s.supplyReplaced was = forEachChan State.supplyLost s.postSupply :=
        (if_neg same).trans (if_neg (by simp [supply]))
      have before : was = true := by
        rw [supply] at same
        simpa using Ne.symm same
      have path : ∀ n, s.replacedPath was n = (s.channels.get n).state.lostPath := fun n => if_pos ⟨before, supply⟩
      obtain ⟨views, notices, elsewhere, log⟩ := forEachChan_supplyLost (s := s.postSupply) supply
      rw [done, ← supply, if_neg same]
      simp only [path]
      refine ⟨fun n => views n, ?_, told.trans elsewhere, log⟩
      rw [notices, NoticeQueue.postAll_append]
      rfl

/-! ## All effects of an installation (R121 steps 1 to 9) -/

theorem State.install_eq (s : State) (p : Profile) :
    s.install p = ((s.installed p).supplyReplaced s.seq.supplyOk).heatTurn s.seq.overTemp true .commit := rfl

/-- R97, R121 steps 7 to 9: the status acts on the channels, then the condition, then each evaluates its wait reasons. -/
theorem State.install_does (s : State) (p : Profile) :
    let t := s.install p
    let m := s.installed p
    let supplied := fun n => m.follow n (m.view n) (m.replacedPath s.seq.supplyOk n)
    let trips := fun n => m.seq.overTemp && !s.seq.overTemp && (supplied n).chan.state.takesTrips
    let number := numberAmong s.log.next trips
    let tripped := fun n => if trips n then m.heated n (supplied n) (number n) else supplied n
    (∀ n, t.view n = m.evaluated n (tripped n) .commit)
    ∧ t.notices = s.notices.postAll
      ((if m.seq.supplyOk = s.seq.supplyOk then [] else [.supply m.seq.supplyOk s.seq.records.supply.smoothed m.seq.band])
        ++ (allChans.flatMap fun n => pathNotices n (m.waitReasons n) (s.channels.get n).state (m.replacedPath s.seq.supplyOk n))
        ++ ((allChans.filter trips).flatMap fun n => m.heatNotices n (supplied n) (number n))
        ++ (allChans.flatMap fun n =>
          pathNotices n (m.waitReasons n) .qualifying (m.readyPath n (tripped n).chan.state .commit)))
    ∧ m.SameElsewhere t
    ∧ (s.log.appendAll ((allChans.filter trips).map fun n => m.heatRecord n (supplied n) (number n))).Same t.log := by
  intro t m supplied trips number tripped
  obtain ⟨lostViews, lostNotices, lostElsewhere, lostLog⟩ := m.supplyReplaced_does s.seq.supplyOk
  have eq : t = (m.supplyReplaced s.seq.supplyOk).heatTurn s.seq.overTemp true .commit := s.install_eq p
  rw [eq]
  generalize m.supplyReplaced s.seq.supplyOk = x at lostViews lostNotices lostElsewhere lostLog
  obtain ⟨views, notices, elsewhere, log⟩ := x.heatTurn_does s.seq.overTemp true .commit
  have seen : ∀ n, x.view n = supplied n := lostViews
  have state : ∀ n, (x.channels.get n).state = (supplied n).chan.state := fun n => congrArg (·.chan.state) (seen n)
  have heats : x.heats s.seq.overTemp = trips := funext fun n => by
    show (x.seq.overTemp && !s.seq.overTemp && (x.channels.get n).state.takesTrips) = trips n
    rw [state, lostElsewhere.conditions.2.2]
  have ground := lostElsewhere.ground
  have next : x.log.next = s.log.next := lostLog.2
  simp only [heats, next, seen, state, ground.heated, ground.evaluated, ground.heatNotices, ground.heatRecord, ground.waits,
    ground.readyPath, if_true] at views notices log
  have takes : ∀ n, trips n = true → (supplied n).chan.state.takesTrips = true := fun n tripped => by
    simp only [trips, Bool.and_eq_true] at tripped
    exact tripped.2
  have left : ∀ n, trips n = true → (m.heated n (supplied n) (number n)).chan.state ≠ .qualifying :=
    fun n tripped => m.heated_ne_qualifying n (takes n tripped) (number n)
  have driven : ∀ n, trips n = true → (supplied n).chan.state ≠ .qualifying := fun n tripped waits => by
    have takes := takes n tripped
    rw [waits] at takes
    cases takes
  refine ⟨fun n => (views n).trans ?_, ?_, lostElsewhere.trans elsewhere, ?_⟩
  · show _ = m.evaluated n (if trips n then m.heated n (supplied n) (number n) else supplied n) .commit
    cases turn : trips n with
    | true => exact (m.evaluated_elsewhere n (left n turn) .commit).symm
    | false => rfl
  · rw [notices, lostNotices, ← NoticeQueue.postAll_append, ← List.append_assoc]
    have paths : ∀ n, m.readyPath n (supplied n).chan.state .commit = m.readyPath n (tripped n).chan.state .commit := fun n => by
      show _ = m.readyPath n (if trips n then m.heated n (supplied n) (number n) else supplied n).chan.state .commit
      cases turn : trips n with
      | true => exact (m.readyPath_elsewhere n (driven n turn) .commit).trans (m.readyPath_elsewhere n (left n turn) .commit).symm
      | false => rfl
    have before : ∀ n, (m.channels.get n).state = (s.channels.get n).state := fun n => congrArg (·.chan.state) (s.installed_view p n)
    simp only [paths, before]
    rfl
  · obtain ⟨records, number'⟩ := (show s.log.Same x.log from lostLog).appendAll
      ((allChans.filter trips).map fun n => m.heatRecord n (supplied n) (number n))
    exact ⟨log.1.trans records, log.2.trans number'⟩

end Sys2Proof.Machine

/-! The requests that install a profile: REVERT (R124, R125) and a COMMIT that passes (R121). -/

namespace Sys2Proof.Machine

/-- R174: an executed request, its owner seen in the state in which the request arrives. -/
theorem exec_served {s t : State} {r : RequestName} {tag : Byte} {payload : List Byte} {a : Answer} (h : s.Executes r tag payload)
    (owner : ownerServes r payload s = (t, a)) (stays : answerResets r.code a = false) :
    exec (requestCommand r tag payload) s = .next (t.answered r tag payload a.bytes) := by
  refine exec_executes h t a ?_ stays
  have asked := blind_ownerServes r payload s ⟨.hunt, [], .stopped, .stopped, [newEntry r.code tag payload .execute], false⟩
  rw [owner] at asked
  exact asked

/-- R31, R55: a channel that does not run takes no trip and loses nothing with the supply. -/
theorem ChState.idle {st : ChState} (still : st.isRunning = false) : st.takesTrips = false ∧ st.lostPath = [] := by
  cases st <;> simp_all [ChState.isRunning, ChState.takesTrips, ChState.lostPath]

/-- R91: an evaluation of wait reasons leaves the records of the channel's points. -/
theorem State.evaluated_points (s : State) (n : Chan) (v : ChanView) (cause : Cause) : (s.evaluated n v cause).points = v.points := by
  by_cases waits : v.chan.state = .qualifying
  · cases empty : (s.waitReasons n).isEmpty with
    | true =>
      rw [s.evaluated_of_ready n waits empty]
      simp [State.follow, ChanView.enters, waits]
    | false => rw [s.evaluated_of_waiting n waits empty]
  · rw [s.evaluated_elsewhere n waits]

/-- R129: the newest valid slot, A on a tie. -/
theorem newestValid_of_newest {v : NvStore} {slot : SlotName} (valid : (v.status slot).valid = true)
    (newest : ∀ other, other ≠ slot → (v.status other).valid = true →
      if slot = .a then (v.status other).generation.toNat ≤ (v.status slot).generation.toNat
      else (v.status other).generation.toNat < (v.status slot).generation.toNat) :
    newestValid v.statusA v.statusB = some slot := by
  cases slot with
  | a =>
    have a : v.statusA.valid = true := valid
    have later : v.statusB.valid = true → v.statusB.generation.toNat ≤ v.statusA.generation.toNat := fun b => newest .b (by decide) b
    cases b : v.statusB.valid with
    | false => simp [newestValid, a, b]
    | true => simp [newestValid, a, b, Nat.not_lt.mpr (later b)]
  | b =>
    have b : v.statusB.valid = true := valid
    have later : v.statusA.valid = true → v.statusA.generation.toNat < v.statusB.generation.toNat := fun a => newest .a (by decide) a
    cases a : v.statusA.valid with
    | false => simp [newestValid, a, b]
    | true => simp [newestValid, a, b, later a]

/-- R86, R96: a supply status lost by a replacement restricts the rotation. -/
theorem State.installed_mode (s : State) (p : Profile) : (s.installed p).seq.mode
    = if s.seq.supplyOk = true ∧ (s.installed p).seq.supplyOk = false then .restricted else s.seq.mode := by
  have judged : (s.installed p).seq.mode
      = if (s.seq.supplyOk && !(s.installed p).seq.supplyOk) = true then .restricted else s.seq.mode := rfl
  rw [judged]
  exact if_congr (by simp) rfl rfl

/-- Where the records of the channels' points stay too, so does the whole sequencer. -/
theorem State.SameElsewhere.seq_eq {s t : State} (h : s.SameElsewhere t) (points : ∀ n, (t.view n).points = (s.view n).points) :
    t.seq = s.seq := by
  obtain ⟨running, point, timer, mode⟩ := h.rotation
  obtain ⟨supply, band, heat⟩ := h.conditions
  obtain ⟨tempRecord, supplyRecord⟩ := h.records
  have chans : t.seq.records.chans = s.seq.records.chans := Quad.ext_get points
  generalize t.seq = after at *
  generalize s.seq = before at *
  obtain ⟨_, _, _, _, ⟨_, _, _⟩, _, _, _⟩ := after
  obtain ⟨_, _, _, _, ⟨_, _, _⟩, _, _, _⟩ := before
  simp_all

section

variable {s : State} (p : Profile)

/-- R125: while no channel runs, an installation moves a channel by its wait reasons alone. -/
theorem State.install_still (still : ∀ n, (s.channels.get n).state.isRunning = false) :
    let t := s.install p
    let m := s.installed p
    (∀ n, t.view n = m.evaluated n ((s.view n).replaced n s.store.active p) .commit)
    ∧ t.notices = s.notices.postAll
      ((if m.seq.supplyOk = s.seq.supplyOk then [] else [.supply m.seq.supplyOk s.seq.records.supply.smoothed m.seq.band])
        ++ (allChans.flatMap fun n =>
          pathNotices n (m.waitReasons n) .qualifying (m.readyPath n (s.channels.get n).state .commit)))
    ∧ m.SameElsewhere t ∧ s.SameLog t := by
  intro t m
  obtain ⟨views, notices, elsewhere, log⟩ := s.install_does p
  have view : ∀ n, m.view n = (s.view n).replaced n s.store.active p := s.installed_view p
  have state : ∀ n, (m.channels.get n).state = (s.channels.get n).state := fun n => congrArg (·.chan.state) (view n)
  have path : ∀ n, m.replacedPath s.seq.supplyOk n = [] := fun n => by
    unfold State.replacedPath
    rw [state, (ChState.idle (still n)).2, ite_self]
  have supplied : ∀ n, m.follow n (m.view n) [] = (s.view n).replaced n s.store.active p := view
  have stateAfter : ∀ n, ((s.view n).replaced n s.store.active p).chan.state = (s.channels.get n).state := fun n => rfl
  have none : ∀ n, ((s.channels.get n).state.takesTrips) = false := fun n => (ChState.idle (still n)).1
  have quiet : ∀ n w st, pathNotices n w st [] = [] := fun _ _ _ => rfl
  have silent : (allChans.flatMap fun _ => ([] : List NoticeBody)) = [] := rfl
  simp only [← show m = s.installed p from rfl, supplied, stateAfter, none, Bool.and_false, Bool.false_eq_true, if_false, path, quiet,
    List.filter_false, List.map_nil, FaultLog.appendAll_nil, List.flatMap_nil, silent, List.append_nil] at views notices log
  exact ⟨views, notices, elsewhere, log⟩

/-- R87, R91, R96: the sequencer then has its records, and the conditions and the rotation mode of the new profile. -/
theorem State.install_still_seq (still : ∀ n, (s.channels.get n).state.isRunning = false) :
    (s.install p).seq = (s.installed p).seq := by
  obtain ⟨views, _, elsewhere, _⟩ := s.install_still p still
  refine elsewhere.seq_eq fun n => ?_
  rw [views n, State.evaluated_points, State.installed_view]

end

/-- R124: REVERT by what refuses it. -/
theorem exec_revert_refused {s : State} {tag : Byte} (h : s.Executes .revert tag []) {st : Status} (notOk : st ≠ .ok)
    (owner : serveRevert s = (s, .only st)) : exec (.revert tag []) s = .next (s.answered .revert tag [] [byteOf st.code]) :=
  exec_served h owner (by simp [answerResets, Answer.only, notOk])

/-- Settles O47: the refusals in order, then the installation of the newest image. -/
theorem revertInstallsTheNewestSlot : Obligations.RevertInstallsTheNewestSlot := by
  intro s tag h answered anyRuns
  have runs : (allChans.any s.isRunning = true) ↔ anyRuns := by simp [anyRuns, State.isRunning, mem_allChans]
  refine ⟨fun opened => ?_, fun closed on => ?_, fun closed still busy => ?_, fun closed still idle a b => ?_,
    fun slot closed still idle valid newest => ?_⟩
  · exact exec_revert_refused h (st := .state) nofun (if_pos (Option.isSome_iff_ne_none.mpr opened))
  · refine exec_revert_refused h (st := .inUse) nofun ((if_neg (by simp [closed])).trans (if_pos (runs.mpr on)))
  · exact exec_revert_refused h (st := .busy) nofun ((if_neg (by simp [closed])).trans ((if_neg (runs.not.mpr still)).trans
      (if_pos (Option.isSome_iff_ne_none.mpr busy))))
  · refine exec_revert_refused h (st := .state) nofun ((if_neg (by simp [closed])).trans ((if_neg (runs.not.mpr still)).trans
      ((if_neg (by simp [idle])).trans ?_)))
    simp only [newestValid, a, b]
  · intro active supply temp ok hot edges
    have quiet : ∀ n, (s.channels.get n).state.isRunning = false := fun n => by
      cases on : (s.channels.get n).state.isRunning with
      | true => exact absurd ⟨n, on⟩ still
      | false => rfl
    obtain ⟨views, notices, elsewhere, log⟩ := s.install_still active quiet
    have seq := s.install_still_seq active quiet
    have served : serveRevert s = (s.install active, .okWith (byteOf slot.code :: le32 active.generation)) := by
      refine (if_neg (by simp [closed])).trans ((if_neg (runs.not.mpr still)).trans ((if_neg (by simp [idle])).trans ?_))
      rw [newestValid_of_newest valid newest]
      rfl
    have code : byteOf slot.code = if slot = .a then 0 else 1 := by cases slot <;> rfl
    have done := exec_served (r := .revert) h served (by simp [answerResets, requestOfCode_code])
    obtain ⟨t, eq⟩ : ∃ t, s.install active = t := ⟨_, rfl⟩
    rw [eq] at views notices elsewhere log seq done
    have judged : (s.installed active).seq.supplyOk = ok := freshSupplyOk_eq _ _ _
    have heated : (s.installed active).seq.overTemp = hot := freshOverTemp_eq _ _ _
    have band : (s.installed active).seq.band.val
        = if supply.valid then (edges.filter fun e => decide (e ≤ supply.smoothed)).length else 0 := freshBand_val _ _ _
    have ground := elsewhere.ground
    refine ⟨t, ?_, elsewhere.store, elsewhere.nv, ?_, by rw [seq]; exact band, fun n => ?_, elsewhere.scanning.2, elsewhere.scanning.1,
      fun n => ?_, ?_, log, elsewhere.startup, elsewhere.lines.2, elsewhere.lines.1, elsewhere.pending⟩
    · rw [← code]
      exact done
    · rw [seq, ← judged, ← heated, ← s.installed_mode active]
      rfl
    · rw [elsewhere.targets, seq]
      exact s.installed_target active n
    · rw [ground.evaluated]
      exact views n
    · simp only [ground.waits, ground.readyPath, seq, ← judged]
      exact notices

end Sys2Proof.Machine

/-! A COMMIT whose checks pass (R121, R122): the staged copy is installed, and with the flag 1 an operation begins. -/

namespace Sys2Proof.Machine

/-- R121, R122: what is left of the store of images. -/
def State.nvAfterCommit (s : State) (persist : Bool) (active : Profile) : NvStore :=
  if persist then s.nv.startPersist active else s.nv

theorem State.nvAfterCommit_persisting (s : State) (active : Profile) :
    (s.nvAfterCommit true active).op = some ⟨slotToWrite s.nv.statusA s.nv.statusB, active, 1, .running 5⟩
      ∧ (s.nvAfterCommit true active).pagesWritten = 0
      ∧ (s.nvAfterCommit true active).status (slotToWrite s.nv.statusA s.nv.statusB) = ⟨false, 0⟩
      ∧ (s.nvAfterCommit true active).pages (slotToWrite s.nv.statusA s.nv.statusB)
        = { s.nv.pages (slotToWrite s.nv.statusA s.nv.statusB) with completionMark := false }
      ∧ ∀ other, other ≠ slotToWrite s.nv.statusA s.nv.statusB →
        (s.nvAfterCommit true active).status other = s.nv.status other
        ∧ (s.nvAfterCommit true active).pages other = s.nv.pages other := by
  rw [State.nvAfterCommit, if_pos rfl]
  refine ⟨rfl, rfl, ?_, s.nv.startPersist_pages_target active, fun other differs => ⟨?_, s.nv.startPersist_pages active other differs⟩⟩
  · rw [NvStore.startPersist_status, if_pos rfl]
    rfl
  · rw [NvStore.startPersist_status, if_neg differs]

/-- R121: a COMMIT whose checks pass. -/
theorem exec_commit_passes {s : State} {tag flag : Byte} {p : Profile} {persist : Bool} (h : s.Executes .commit tag [flag])
    (flagged : flagIn flag = some persist) (byte : persist = true ↔ flag = 1) (inRange : flag.toNat ≤ 1)
    (staged : s.store.staged = some p) (idle : persist = true → s.nv.op = none)
    (more : s.store.active.generation ≠ 4294967295) (passes : firstFailure p s.isRunning = none) :
    exec (.commit tag [flag]) s = .next (((s.commit p).withNv (s.nvAfterCommit persist { p with
      generation := s.store.active.generation + 1 })).answered .commit tag [flag]
        (flag :: le32 (s.store.active.generation + 1))) := by
  have notBusy : ¬(persist = true ∧ s.nv.op.isSome = true) := by
    rintro ⟨on, busy⟩
    exact Option.isSome_iff_ne_none.mp busy (idle on)
  have served : serveCommit [flag] s = s.commitAnswer p persist := by
    simp only [serveCommit, flagged, staged, notBusy, more, passes, if_false]
  obtain ⟨_, _, elsewhere, _⟩ := s.dropEdit.install_does { p with generation := s.store.active.generation + 1 }
  have nv : (s.commit p).nv = s.nv := elsewhere.nv
  have active : (s.commit p).store.active = { p with generation := s.store.active.generation + 1 } :=
    congrArg ProfileStore.active elsewhere.store
  have answered := exec_served (r := .commit) h (t := (s.commitAnswer p persist).1) (a := (s.commitAnswer p persist).2) served
    (by simp [answerResets, requestOfCode_code])
  refine answered.trans (congrArg _ ?_)
  unfold State.commitAnswer State.nvAfterCommit
  dsimp only
  generalize s.commit p = k at nv active
  cases persist with
  | true =>
    have one : flag = 1 := byte.mp rfl
    rw [if_pos rfl, if_pos rfl, State.startPersist, nv, active, one]
    rfl
  | false =>
    have zero : flag = 0 := by
      have other : flag ≠ 1 := fun one => Bool.noConfusion (byte.mpr one)
      have notOne : flag.toNat ≠ 1 := fun one => other (BitVec.eq_of_toNat_eq one)
      exact BitVec.eq_of_toNat_eq (show flag.toNat = 0 by omega)
    rw [if_neg Bool.false_ne_true, if_neg Bool.false_ne_true, ← nv, zero]
    rfl

/-- Settles O44: the installation, told with the part as it is left, and the operation that begins. -/
theorem aCommitCarriesItsEffectsToEveryBlock : Obligations.ACommitCarriesItsEffectsToEveryBlock := by
  intro s tag flag p h inRange staged free more passes active supply temp ok hot edges slot lost lostPath
  obtain ⟨persist, flagged, byte⟩ := flagIn_cases inRange
  have done := exec_commit_passes h flagged byte inRange staged (fun on => free (byte.mp on)) more passes
  obtain ⟨views, notices, elsewhere, log⟩ := s.dropEdit.install_does active
  have judged : (s.dropEdit.installed active).seq.supplyOk = ok := freshSupplyOk_eq _ _ _
  have heated : (s.dropEdit.installed active).seq.overTemp = hot := freshOverTemp_eq _ _ _
  have band : (s.dropEdit.installed active).seq.band.val
      = if supply.valid then (edges.filter fun e => decide (e ≤ supply.smoothed)).length else 0 := freshBand_val _ _ _
  have mode := s.dropEdit.installed_mode active
  have target := s.dropEdit.installed_target active
  have view := s.dropEdit.installed_view active
  have eq : s.dropEdit.install active = s.commit p := rfl
  rw [eq] at views notices elsewhere log
  generalize s.commit p = k at views notices elsewhere log done
  have rest : (s.dropEdit.installed active).store = ⟨active, none, .stopped⟩
      ∧ (s.dropEdit.installed active).seq.records.temp = temp ∧ (s.dropEdit.installed active).seq.records.supply = supply
      ∧ (s.dropEdit.installed active).scanner.position = 0 := ⟨rfl, rfl, rfl, rfl⟩
  have kept : (s.dropEdit.installed active).seq.running = s.seq.running ∧ (s.dropEdit.installed active).seq.point = s.seq.point
      ∧ (s.dropEdit.installed active).seq.timer = s.seq.timer ∧ (s.dropEdit.installed active).scanner.scanning = s.scanner.scanning
      ∧ (s.dropEdit.installed active).startup = s.startup ∧ (s.dropEdit.installed active).pins = s.pins
      ∧ (s.dropEdit.installed active).link = s.link ∧ (s.dropEdit.installed active).pending = s.pending :=
    ⟨rfl, rfl, rfl, rfl, rfl, rfl, rfl, rfl⟩
  have dropped : s.dropEdit.seq = s.seq ∧ s.dropEdit.log = s.log ∧ s.dropEdit.notices = s.notices ∧ s.dropEdit.channels = s.channels :=
    ⟨rfl, rfl, rfl, rfl⟩
  have replaced : ∀ n, (s.dropEdit.view n).replaced n s.dropEdit.store.active active = (s.view n).replaced n s.store.active p :=
    fun _ => rfl
  obtain ⟨dropSeq, dropLog, dropNotices, dropChannels⟩ := dropped
  rw [dropSeq] at views notices log mode
  rw [dropLog] at views notices log
  rw [dropNotices, dropChannels] at notices
  rw [dropSeq] at target
  simp only [replaced] at view
  generalize s.dropEdit.installed active = m at *
  obtain ⟨store, tempRecord, supplyRecord, position⟩ := rest
  obtain ⟨running, point, timer, scanning, startup, pins, link, pending⟩ := kept
  have path : ∀ n, m.replacedPath s.seq.supplyOk n = lostPath n := fun n => by
    have state : (m.channels.get n).state = (s.channels.get n).state := congrArg (·.chan.state) (view n)
    unfold State.replacedPath
    rw [state, judged]
  have ground : m.SameGround (k.withNv (s.nvAfterCommit persist active)) :=
    elsewhere.ground.trans ⟨rfl, rfl, rfl, fun _ => rfl, rfl, rfl⟩
  obtain ⟨runs, at_, due, rotates⟩ := elsewhere.rotation
  obtain ⟨supplyKept, bandKept, heatKept⟩ := elsewhere.conditions
  refine ⟨k.withNv (s.nvAfterCommit persist active), done, elsewhere.store.trans store, supplyKept.trans judged, heatKept.trans heated,
    (congrArg Fin.val bandKept).trans band, ?_, elsewhere.records.1.trans tempRecord, elsewhere.records.2.trans supplyRecord,
    runs.trans running, at_.trans point, due.trans timer, fun n => ?_, elsewhere.scanning.2.trans position,
    elsewhere.scanning.1.trans scanning, ?_, fun zero => ?_, fun one => ?_, elsewhere.startup.trans startup, elsewhere.lines.2.trans pins,
    elsewhere.lines.1.trans link, elsewhere.pending.trans pending⟩
  · rw [judged] at mode
    exact rotates.trans mode
  · show ((k.targets.get n : Nat) : Int) = _
    have sameBand : (k.withNv (s.nvAfterCommit persist active)).seq.band = m.seq.band := bandKept
    rw [elsewhere.targets, target, sameBand]
  · intro supplied trips number tripped
    have lostTo : ∀ n, m.follow n (m.view n) (m.replacedPath s.seq.supplyOk n) = supplied n := fun n => by
      rw [path, view, ← ground.follow]
    have heats : ∀ n, (m.seq.overTemp && !s.seq.overTemp && (supplied n).chan.state.takesTrips) = trips n := fun n => by
      show _ = (match (supplied n).chan.state with
        | .ramping | .active | .windingDown => hot && !s.seq.overTemp
        | .disabled | .qualifying | .held | .tripped | .locked => false)
      rw [heated]
      cases (supplied n).chan.state <;> simp [ChState.takesTrips]
    have turned : ∀ n, (if trips n = true then m.heated n (supplied n) (numberAmong s.log.next trips n) else supplied n) = tripped n :=
      fun n => by rw [← ground.heated]
    simp only [lostTo, heats, turned, ← ground.evaluated, ← ground.heatNotices, ← ground.heatRecord, ← ground.waits, ← ground.readyPath]
      at views notices log
    refine ⟨views, ?_, fun within => ?_, ?_⟩
    · refine log.2.trans ?_
      rw [FaultLog.appendAll_next, List.length_map]
    · exact log.1.trans (s.log.appendAll_records _ within)
    · have sameBand : (k.withNv (s.nvAfterCommit persist active)).seq.band = m.seq.band := bandKept
      simp only [path, judged] at notices
      rw [sameBand]
      exact notices
  · have off : persist = false := by simpa [zero] using byte
    rw [off]
    rfl
  · have on : persist = true := byte.mpr one
    rw [on]
    exact s.nvAfterCommit_persisting active

end Sys2Proof.Machine

/-! What recall asks of a slot, and the slot it takes (R102, R103, R127, R140). -/

namespace Sys2Proof.Machine

/-! ## Fields in range (R102, R103) -/

theorem curveOk_iff (curve : List Breakpoint) : curveOk curve = true ↔ (2 ≤ curve.length ∧ curve.length ≤ 16)
    ∧ (∀ b ∈ curve, -55 ≤ b.temp ∧ b.temp ≤ 150 ∧ b.code ≤ 4095) ∧ curve.IsChain fun a b => a.temp < b.temp := by
  rw [curveOk, Bool.and_eq_true, Bool.and_eq_true, decide_eq_true_eq, risesStrictly_iff_isChain, List.isChain_map, List.all_eq_true,
    and_assoc]
  simp only [Breakpoint.inRange, decide_eq_true_eq, Config.maxBreakpoints]

theorem ChannelProfile.fieldsInRange_iff (c : ChannelProfile) : c.FieldsInRange ↔ c.inRange = true := by
  rw [ChannelProfile.inRange_iff, curveOk_iff]
  simp only [TripSetting.inRange, decide_eq_true_eq]
  constructor
  · intro h
    obtain ⟨floor, ceiling, park⟩ := h.codes
    obtain ⟨delay, delay', budget⟩ := h.retries
    exact ⟨⟨h.points, h.breakpoints, h.rising⟩, ⟨h.trims, floor, ceiling, park, h.slew.1, h.slew.2, h.blanking.1, h.blanking.2, delay, delay',
      budget, h.stable.1, h.stable.2, h.heat⟩, h.trips⟩
  · rintro ⟨⟨points, breakpoints, rising⟩, ⟨trims, floor, ceiling, park, slew, slew', blanking, blanking', delay, delay', budget, stable,
      stable', heat⟩, trips⟩
    exact ⟨points, breakpoints, rising, trims, ⟨floor, ceiling, park⟩, ⟨slew, slew'⟩, ⟨blanking, blanking'⟩, ⟨delay, delay', budget⟩,
      ⟨stable, stable'⟩, trips, heat⟩

theorem Point.bounds_eq (q : Point) : (if q = .temp then -880 else 0 : Int) = q.least
    ∧ (if q = .temp then 2400 else if q = .supply then 6000 else 4095 : Int) = q.greatest := by
  cases q <;> simp [Point.least, Point.greatest]

theorem Profile.fieldsInRange_iff (p : Profile) : p.FieldsInRange ↔ p.inRange = true := by
  have windows : (∀ q : Point,
      let least : Int := if q = .temp then -880 else 0
      let greatest : Int := if q = .temp then 2400 else if q = .supply then 6000 else 4095
      let w := p.windows.get q
      least ≤ w.high ∧ w.high ≤ greatest ∧ least ≤ w.low ∧ w.low ≤ greatest ∧ 0 ≤ w.hyst ∧ w.hyst ≤ greatest - least
        ∧ w.depth ≤ 3) ↔ ∀ q, (p.windows.get q).inRange q = true := by
    refine forall_congr' fun q => ?_
    obtain ⟨least, greatest⟩ := q.bounds_eq
    simp only [least, greatest, Window.inRange, decide_eq_true_eq]
  rw [Profile.inRange_iff, ← windows]
  simp only [← ChannelProfile.fieldsInRange_iff, SupplySettings.inRange, decide_eq_true_eq]
  constructor
  · intro h
    obtain ⟨e1, e2, e3, hyst⟩ := h.edges
    exact ⟨h.channels, h.scanList, ⟨e1, e2, e3, hyst, h.drive.1, h.drive.2, h.thermal⟩, h.windows⟩
  · rintro ⟨channels, list, ⟨e1, e2, e3, hyst, least, most, thermal⟩, windows⟩
    exact ⟨channels, list, ⟨e1, e2, e3, hyst⟩, ⟨least, most⟩, thermal, windows⟩

/-! ## Sound slots (R127) -/

section

variable (p : Profile)

theorem failsFloorCeiling_iff : failsFloorCeiling p = none ↔ ∀ n, (p.channels.get n).floor ≤ (p.channels.get n).ceiling := by
  refine ⟨fun passes n => ?_, failsFloorCeiling_eq_none⟩
  simpa using List.find?_eq_none.mp (Option.map_eq_none_iff.mp passes) n (mem_allChans n)

theorem failsBandEdges_iff : failsBandEdges p = none ↔ p.supply.e1 < p.supply.e2 ∧ p.supply.e2 < p.supply.e3 := by
  refine ⟨fun passes => ?_, fun ⟨first, second⟩ => failsBandEdges_eq_none first second⟩
  unfold failsBandEdges at passes
  split_ifs at passes with first second
  exact ⟨Nat.lt_of_not_le first, Nat.lt_of_not_le second⟩

theorem failsDriveWindow_iff : failsDriveWindow p = none ↔ p.supply.driveMin + 2 * p.supply.hyst < p.supply.driveMax := by
  refine ⟨fun passes => ?_, failsDriveWindow_eq_none⟩
  unfold failsDriveWindow at passes
  split_ifs at passes with wide
  omega

theorem failsWarningWindow_iff : failsWarningWindow p = none ↔ ∀ q, (p.windows.get q).low < (p.windows.get q).high
    ∧ (p.windows.get q).hyst < (p.windows.get q).high - (p.windows.get q).low := by
  refine ⟨fun passes q => ?_, fun wide => failsWarningWindow_eq_none fun q => ?_⟩
  · obtain ⟨ordered, wide⟩ : (p.windows.get q).low < (p.windows.get q).high
        ∧ (p.windows.get q).hyst + (p.windows.get q).low < (p.windows.get q).high := by
      simpa using List.find?_eq_none.mp (Option.map_eq_none_iff.mp passes) q (mem_allPoints q)
    exact ⟨ordered, by omega⟩
  · have := wide q
    omega

end

/-- R127: what recall asks of a slot is what it finds. -/
theorem SlotPages.sound_iff (p : SlotPages) : p.Sound ↔ p.valid = true := by
  rw [SlotPages.valid_iff]
  constructor
  · intro h
    exact ⟨h.mark, h.format, h.check, (p.content.fieldsInRange_iff).mp h.ranges, (failsFloorCeiling_iff _).mpr h.floorCeiling,
      (failsBandEdges_iff _).mpr h.bandEdges, (failsDriveWindow_iff _).mpr h.driveWindow, (failsWarningWindow_iff _).mpr h.warningWindow⟩
  · rintro ⟨mark, format, check, good⟩
    exact ⟨mark, format, check, (p.content.fieldsInRange_iff).mpr good.ranges, (failsFloorCeiling_iff _).mp good.floorCeiling,
      (failsBandEdges_iff _).mp good.bandEdges, (failsDriveWindow_iff _).mp good.driveWindow,
      (failsWarningWindow_iff _).mp good.warningWindow⟩

/-! ## The slot recall takes (R129, R140) -/

section

variable (v : NvStore)

theorem NvStore.judged_of_sound {v : NvStore} {n : SlotName} (sound : (v.pages n).Sound) :
    v.judged.status n = ⟨true, (v.pages n).generation⟩ := by
  rw [NvStore.judged_status, judgeSlot, if_pos ((v.pages n).sound_iff.mp sound)]

theorem NvStore.judged_of_unsound {v : NvStore} {n : SlotName} (unsound : ¬(v.pages n).Sound) : v.judged.status n = ⟨false, 0⟩ := by
  rw [NvStore.judged_status, judgeSlot, if_neg fun valid => unsound ((v.pages n).sound_iff.mpr valid)]
  rfl

/-- R129, R140: which slot recall takes, and the profile it installs. -/
theorem NvStore.recall_does :
    (v.recall.1 = .slotA ↔ (v.pages .a).Sound ∧ ((v.pages .b).Sound → (v.pages .b).generation.toNat ≤ (v.pages .a).generation.toNat))
    ∧ (v.recall.1 = .slotB ↔ (v.pages .b).Sound ∧ ((v.pages .a).Sound → (v.pages .a).generation.toNat < (v.pages .b).generation.toNat))
    ∧ v.recall.2 = match v.recall.1 with
      | .slotA => v.image .a
      | .slotB => v.image .b
      | .factory => factoryProfile := by
  have statusA : v.judged.statusA = v.judged.status .a := rfl
  have statusB : v.judged.statusB = v.judged.status .b := rfl
  unfold NvStore.recall newestValid
  by_cases a : (v.pages .a).Sound <;> by_cases b : (v.pages .b).Sound
  · simp only [statusA, statusB, NvStore.judged_of_sound a, NvStore.judged_of_sound b, a, b]
    by_cases later : (v.pages .b).generation.toNat > (v.pages .a).generation.toNat
    · simp [later]
    · simp [later, Nat.not_lt.mp later]
  · simp [statusA, statusB, NvStore.judged_of_sound a, NvStore.judged_of_unsound b, a, b]
  · simp [statusA, statusB, NvStore.judged_of_unsound a, NvStore.judged_of_sound b, a, b]
  · simp [statusA, statusB, NvStore.judged_of_unsound a, NvStore.judged_of_unsound b, a, b]

end

end Sys2Proof.Machine

/-! The end of recall (R189, R190): the image is installed, the blocks start, and the start-enabled channels leave DISABLED. -/

namespace Sys2Proof.Machine

/-- R189: recall ends at an uptime of 1 at the least (log 24). -/
theorem exec_endOfRecall {s : State} (recalling : s.startup.phase = .recalling) :
    exec .endOfRecall s = .next (s.elapse s.toRecallEnd).recallEnds.settle := by
  show execEndOfRecall s = _
  rw [execEndOfRecall, if_pos recalling]

/-- R190 steps 1 to 5: the part before its channels start. -/
def State.broughtUp (s : State) : State := s.bringUp.postStart s.nv.recall.1

/-- R190 steps 1 to 4: what the part holds then, from the blocks at their values after a full reset. -/
theorem State.BlocksAtReset.bringUp {s : State} (h : s.BlocksAtReset) : s.bringUp = { s with
    targets := Quad.ofFn fun n => (s.nv.recall.2.channels.get n).floor
    drive := Quad.ofFn fun n => ⟨(s.nv.recall.2.channels.get n).park, .parked, .stopped⟩
    scanner := { scannerAtReset with scanning := true }
    seq := { sequencerAtReset with running := true, timer := .running 4 }
    store := ⟨s.nv.recall.2, none, .stopped⟩
    nv := s.nv.judged } := by
  have scanner : s.bringUp.scanner = { s.scanner with scanning := true, position := 0 } := rfl
  have seq : s.bringUp.seq = { s.seq with running := true, point := .temp, mode := .restricted, timer := .running 4 } := rfl
  rw [h.scanner] at scanner
  rw [h.seq] at seq
  exact (congrArg₂ (fun scanner seq => ({ s.bringUp with scanner := scanner, seq := seq } : State)) scanner seq)

/-- R6: at the start no supply and no temperature has been measured. -/
def waitsAtStart (p : Profile) (n : Chan) : WaitSet := ⟨true, true, false, !(p.channels.get n).usable, !covered p.scanList n⟩

/-- R30: the state a channel starts in. -/
def startState (held : Bool) : ChState := if held then .held else .qualifying

/-- R30: a start-enabled channel is HELD or QUALIFYING, with its notice. -/
def startPathOf (p : Profile) (held : Bool) (n : Chan) : Path :=
  if (p.channels.get n).startEnabled then [(startState held, .start)] else []

section

variable {s : State} (h : s.BlocksAtReset) (n : Chan)
include h

theorem State.BlocksAtReset.waitsAtStart : s.broughtUp.waitReasons n = waitsAtStart s.nv.recall.2 n := by
  have same : s.broughtUp.waitReasons n = s.bringUp.waitReasons n := rfl
  rw [same, h.bringUp]
  rfl

theorem State.BlocksAtReset.startView : s.broughtUp.view n
    = ⟨channelAtReset, ⟨(s.nv.recall.2.channels.get n).park, .parked, .stopped⟩, talliesAtReset,
      ⟨recordAtReset, recordAtReset, recordAtReset⟩, none, ⟨false, false, false⟩⟩ := by
  have same : s.broughtUp.view n = s.bringUp.view n := rfl
  rw [same, h.bringUp]
  unfold State.view
  simp only [h.channels, h.log, logAtReset, scannerAtReset, sequencerAtReset, Quad.get_const, Quad.get_ofFn]

theorem State.BlocksAtReset.startPath : s.broughtUp.startPath n = startPathOf s.nv.recall.2 (s.pins.hold.get n) n := by
  have prof : s.broughtUp.prof n = s.nv.recall.2.channels.get n := rfl
  have hold : s.broughtUp.holdEffective n = s.pins.hold.get n := by
    have soft : (s.broughtUp.channels.get n).softHold = false := by
      have chan := congrArg (·.chan.softHold) (h.startView n)
      exact chan
    show (s.pins.hold.get n || (s.broughtUp.channels.get n).softHold) = _
    rw [soft, Bool.or_false]
  have waits : (s.broughtUp.waitReasons n).isEmpty = false := by
    rw [h.waitsAtStart]
    rfl
  unfold State.startPath startPathOf
  rw [prof]
  refine if_congr Iff.rfl ?_ rfl
  rw [State.wantedPath, hold, State.qualifyPath, waits]
  cases s.pins.hold.get n <;> rfl

/-- R190 step 6: how a channel is seen once it has started. -/
theorem State.BlocksAtReset.started : s.broughtUp.follow n (s.broughtUp.view n) (s.broughtUp.startPath n)
    = { s.broughtUp.view n with chan :=
        if (s.nv.recall.2.channels.get n).startEnabled then
          (if s.pins.hold.get n then { channelAtReset with state := .held }
            else { channelAtReset with state := .qualifying, wait := Machine.waitsAtStart s.nv.recall.2 n })
        else channelAtReset } := by
  rw [h.startPath, h.startView, startPathOf]
  split_ifs with enabled held
  · rw [held]
    rfl
  · have free : s.pins.hold.get n = false := by simpa using held
    rw [free, State.follow, List.foldl_cons, h.waitsAtStart]
    rfl
  · rfl

end

/-! ## The part that runs -/

theorem NoticeQueue.post_nonempty {q : NoticeQueue} (h : q.queue ≠ []) (body : NoticeBody) : (q.post body).queue ≠ [] := by
  have lost : ∀ l : List Notice, l ≠ [] → countLost l ≠ [] := fun l some_ => by
    match l with
    | [_] => nofun
    | _ :: _ :: _ => nofun
  unfold NoticeQueue.post
  split_ifs
  · exact h
  · exact lost _ h
  · simp

theorem NoticeQueue.postAll_nonempty {q : NoticeQueue} (h : q.queue ≠ []) (bodies : List NoticeBody) :
    (q.postAll bodies).queue ≠ [] := by
  induction bodies generalizing q with
  | nil => exact h
  | cons body rest ih => exact ih (q.post_nonempty h body)

/-- The kind mask after a full reset admits START, and the queue after one has room for it. -/
theorem NoticeQueue.start_nonempty (cause : ResetCause) (outcome : RecallOutcome) (generation : W32) :
    (noticesAtReset.post (.start cause outcome generation)).queue ≠ [] := by
  have admitted : noticesAtReset.admits (NoticeBody.start cause outcome generation).kind = true := by
    show noticesAtReset.admits .start = true
    decide
  have room : ¬ noticesAtReset.queue.length ≥ Config.noticeCapacity := by decide
  simp [NoticeQueue.post, admitted, room]

/-- Where the tallies of the channels stay too, so does the whole scanner. -/
theorem State.SameElsewhere.scanner_eq {s t : State} (h : s.SameElsewhere t) (tallies : ∀ n, (t.view n).tallies = (s.view n).tallies) :
    t.scanner = s.scanner := by
  obtain ⟨scanning, position⟩ := h.scanning
  have all : t.scanner.tallies = s.scanner.tallies := Quad.ext_get tallies
  generalize t.scanner = after at *
  generalize s.scanner = before at *
  cases after
  cases before
  simp_all

/-- Where the marks of the channels stay too, so does the whole log. -/
theorem State.SameLog.eq_of_views {s t : State} (h : s.SameLog t) (entry : ∀ n, (t.view n).rampEntry = (s.view n).rampEntry)
    (marks : ∀ n, (t.view n).marks = (s.view n).marks) : t.log = s.log := by
  obtain ⟨records, next⟩ := h
  have entries : t.log.rampEntry = s.log.rampEntry := Quad.ext_get entry
  have allMarks : t.log.marks = s.log.marks := Quad.ext_get marks
  generalize t.log = after at *
  generalize s.log = before at *
  cases after
  cases before
  simp_all

/-- R190: what recall leaves. -/
theorem State.BlocksAtReset.recallEnds {s : State} (h : s.BlocksAtReset) :
    let p := s.nv.recall.2
    let t := s.recallEnds
    t.nv = s.nv.judged ∧ t.startup = { s.startup with phase := .running } ∧ t.store = ⟨p, none, .stopped⟩
    ∧ (∀ n, t.targets.get n = (p.channels.get n).floor)
    ∧ (∀ n, t.drive.get n = ⟨(p.channels.get n).park, .parked, .stopped⟩)
    ∧ t.scanner = { scannerAtReset with scanning := true }
    ∧ t.seq = { sequencerAtReset with running := true, timer := .running 4 }
    ∧ (∀ n, t.channels.get n = if (p.channels.get n).startEnabled then
        (if s.pins.hold.get n then { channelAtReset with state := .held }
          else { channelAtReset with state := .qualifying, wait := Machine.waitsAtStart p n })
      else channelAtReset)
    ∧ t.notices = noticesAtReset.postAll (.start s.startup.cause s.nv.recall.1 p.generation
      :: (allChans.filter fun n => (p.channels.get n).startEnabled).map fun n =>
        if s.pins.hold.get n then .channel n .disabled .held .start none
        else .channel n .disabled .qualifying .start (some (Machine.waitsAtStart p n)))
    ∧ t.log = logAtReset ∧ t.pins = s.pins ∧ t.pending = s.pending ∧ t.link = s.link := by
  intro p t
  obtain ⟨views, notices, elsewhere, log⟩ := startChannel_hasOutcome.forEachChan s.broughtUp
  have seen : ∀ n, t.view n = { s.broughtUp.view n with chan :=
        if (p.channels.get n).startEnabled then
          (if s.pins.hold.get n then { channelAtReset with state := .held }
            else { channelAtReset with state := .qualifying, wait := Machine.waitsAtStart p n })
        else channelAtReset } := fun n => (views n).trans (h.started n)
  have tallies : ∀ n, (t.view n).tallies = (s.broughtUp.view n).tallies := fun n => by rw [seen n]
  have points : ∀ n, (t.view n).points = (s.broughtUp.view n).points := fun n => by rw [seen n]
  have entries : ∀ n, (t.view n).rampEntry = (s.broughtUp.view n).rampEntry := fun n => by rw [seen n]
  have marks : ∀ n, (t.view n).marks = (s.broughtUp.view n).marks := fun n => by rw [seen n]
  have scanner : s.broughtUp.scanner = { scannerAtReset with scanning := true } := congrArg State.scanner h.bringUp
  have seq : s.broughtUp.seq = { sequencerAtReset with running := true, timer := .running 4 } := congrArg State.seq h.bringUp
  have begun : s.broughtUp.notices = noticesAtReset.postAll [.start s.startup.cause s.nv.recall.1 p.generation] := by
    show s.notices.post _ = _
    rw [h.notices]
    rfl
  refine ⟨elsewhere.nv, congrArg (fun u : StartUp => { u with phase := .running }) elsewhere.startup, elsewhere.store, fun n => ?_,
    fun n => ?_, ?_, ?_, fun n => congrArg ChanView.chan (seen n), ?_, ?_, elsewhere.lines.2, elsewhere.pending, elsewhere.lines.1⟩
  · show (forEachChan State.startChannel s.broughtUp).targets.get n = _
    rw [elsewhere.targets]
    exact Quad.get_ofFn _ n
  · have drive : (s.broughtUp.view n).drive = ⟨(p.channels.get n).park, .parked, .stopped⟩ := by rw [h.startView]
    exact (congrArg ChanView.drive (seen n)).trans drive
  · exact (elsewhere.scanner_eq tallies).trans scanner
  · exact (elsewhere.seq_eq points).trans seq
  · show (forEachChan State.startChannel s.broughtUp).notices = _
    rw [notices, begun, ← NoticeQueue.postAll_append, List.singleton_append, ← flatMap_ite_singleton]
    refine congrArg (fun bodies => noticesAtReset.postAll (_ :: bodies)) (List.flatMap_congr fun n _ => ?_)
    show s.broughtUp.noticesOf n (s.broughtUp.startPath n) = _
    have before : (s.broughtUp.channels.get n).state = .disabled := by
      have state := congrArg (·.chan.state) (h.startView n)
      exact state
    rw [State.noticesOf, h.waitsAtStart, before, h.startPath, startPathOf]
    split_ifs with enabled held
    · rw [held]
      rfl
    · have free : s.pins.hold.get n = false := by simpa using held
      rw [free]
      rfl
    · rfl
  · exact (State.SameLog.eq_of_views (s := s.broughtUp) log entries marks).trans h.log

/-- R31: FASTOFF and FAULT are deasserted where no channel is TRIPPED or LOCKED. -/
theorem State.not_fastOff {s : State} {n : Chan} (h : (s.channels.get n).state ≠ .tripped ∧ (s.channels.get n).state ≠ .locked) :
    s.fastOff n = false :=
  Bool.eq_false_iff.mpr fun on => ((s.fastOff_iff n).mp on).elim h.1 h.2

theorem State.not_faultAsserted {s : State}
    (h : ∀ n, (s.channels.get n).state ≠ .tripped ∧ (s.channels.get n).state ≠ .locked) : s.faultAsserted = false :=
  Bool.eq_false_iff.mpr fun on => by
    obtain ⟨n, _, faulted⟩ := s.faultAsserted_iff.mp on
    exact faulted.elim (h n).1 (h n).2

/-- Settles O21: the judgement of the slots, and the start. -/
theorem endOfRecallBringsThePartUp : Obligations.EndOfRecallBringsThePartUp := by
  intro s held recalling sound generation ms
  have early : s.startup.phase ≠ .running := by rw [recalling]; nofun
  have before := held.blocks early
  have idle : s.nv.op = none := by rw [before.nv]; rfl
  have same : (s.elapse s.toRecallEnd).nv = s.nv := by
    rw [State.elapse_nv, idle]
    rw [before.nv]
    rfl
  have cause : (s.elapse s.toRecallEnd).startup = { s.startup with uptime := if s.startup.uptime = 0 then 1 else s.startup.uptime } := by
    have phase : ¬s.startup.phase = .resetHeld := by rw [recalling]; nofun
    show s.startup.elapse s.toRecallEnd = _
    rw [StartUp.elapse, if_neg phase, State.toRecallEnd]
    by_cases zero : s.startup.uptime = 0
    · rw [if_pos zero, if_pos zero, zero]
      rfl
    · rw [if_neg zero, if_neg zero, BitVec.add_zero]
  obtain ⟨nv, startup, store, targets, drive, scanner, seq, channels, notices, log, pins, pending, link⟩ :=
    (before.elapse s.toRecallEnd).recallEnds
  rw [same] at nv store targets drive channels notices
  rw [cause] at startup notices
  obtain ⟨slotA, slotB, installs⟩ := s.nv.recall_does
  have hold : (s.elapse s.toRecallEnd).pins = s.pins := rfl
  rw [hold] at channels notices pins
  have states : ∀ n, ((s.elapse s.toRecallEnd).recallEnds.channels.get n).state ≠ .tripped
      ∧ ((s.elapse s.toRecallEnd).recallEnds.channels.get n).state ≠ .locked := fun n => by
    rw [channels n]
    split_ifs <;> exact ⟨nofun, nofun⟩
  have resting : ∀ n, (s.channels.get n).state ≠ .tripped ∧ (s.channels.get n).state ≠ .locked := fun n => by
    rw [before.channels, Quad.get_const]
    exact ⟨nofun, nofun⟩
  refine ⟨(s.elapse s.toRecallEnd).recallEnds, s.nv.recall.1, s.nv.recall.2, exec_endOfRecall recalling, slotA, slotB, ?_,
    fun slot => ⟨fun good => ?_, fun bad => ?_, ?_⟩, ?_, ?_, startup, store, targets, drive, fun n => ⟨?_, ?_⟩, fun n => ⟨?_, ?_⟩, ?_, ?_, ?_, ?_,
    scanner, seq, channels, notices, log, pins, pending, link⟩
  · rw [installs]
    cases s.nv.recall.1 <;> rfl
  · rw [nv, NvStore.judged_of_sound good]
  · rw [nv, NvStore.judged_of_unsound bad]
  · rw [nv, NvStore.judged_pages]
  · rw [nv]
    exact idle
  · rw [nv]
    show s.nv.pagesWritten = 0
    rw [before.nv]
    rfl
  · rw [State.biasOutput_eq, before.drive, Quad.get_const]
    rfl
  · rw [State.biasOutput_eq, drive n]
    rfl
  · exact State.not_fastOff (resting n)
  · exact State.not_fastOff (states n)
  · exact State.not_faultAsserted resting
  · exact State.not_faultAsserted states
  · rw [State.attn, before.notices]
    rfl
  · rw [State.attn, notices, Bool.not_eq_true', List.isEmpty_eq_false_iff]
    exact NoticeQueue.postAll_nonempty (NoticeQueue.start_nonempty _ _ _) _

end Sys2Proof.Machine
